-- ==== Sys2Proof/Word.lean ====
section
/-! DEFINITION. The words and index types of the FC340: bytes, addresses, byte masks, page numbers and the
numbered things of the spec. -/

namespace Sys2Proof

/-- One byte as it crosses a pin. -/
abbrev Byte := BitVec 8

/-- A 40-bit byte address (00_scope.md, 4.2). -/
abbrev Addr := BitVec 40

/-- A byte mask: bit n set means byte n of the line is present (00_scope.md, 4.2). -/
abbrev Mask := BitVec 32

/-- A page number: the address divided by 4096 (00_scope.md, 4.2). -/
abbrev Page := BitVec 28

/-- One of the eight initiators, 0..7. -/
abbrev Initiator := Fin 8

/-- A tag, 0..15. -/
abbrev Tag := Fin 16

/-- An access number, 0..15 (R79). -/
abbrev AccessNumber := Fin 16

/-- A region index: 0..15 for an entry, 16 for the default region (R3, R4). -/
abbrev RegionIndex := Fin 17

/-- The number of a pacing profile, 0..3 (R92). -/
abbrev ProfileIndex := Fin 4

end Sys2Proof
end

