-- ==== Sys2Proof/Config.lean ====
section
/-! DEFINITION. What the part fixes (its identity, its fill value) and the free values, which the spec leaves
open. -/

namespace Sys2Proof

/-- The free value the model takes wherever the spec allows any order: which of several responses given at one
event leaves first (R76, R169), and which of several expiries due at one tick is taken first when the queue of
commands is empty (R200). It has no body; nothing in Lean can evaluate it (log entries 3, 4). -/
opaque Config.freeChoice : Nat → Nat

/-- Vendor code (00_scope.md, 1.2; R191). -/
def Config.vendorCode : Byte := 0x5B

/-- Part code 0340h, most significant byte first (00_scope.md, 1.2; R191). -/
def Config.partCode : List Byte := [0x03, 0x40]

/-- Revision (00_scope.md, 1.2; R191). -/
def Config.revision : Byte := 0x01

/-- The fill value driven on MISO where there is nothing to send (12.4). -/
def Config.fill : Byte := 0xFF

end Sys2Proof
end

