-- ==== Sys2Proof/Syntax.lean ====
section
/-! DEFINITION. The commands of the FC340: one constructor of Instr for each row of spec/opcode_table.json.
The table gives its rows no bits and no operands; the operands here are the contents of the frame, byte or
timer the row is about (log entries 7, 9, 10). -/

namespace Sys2Proof

/-- The size of a request (R160). -/
inductive Size where
  | b1
  | b2
  | b4
  | b8
  | b32
  deriving DecidableEq, Repr

/-- How many bytes a size spans (00_scope.md, 4.2). -/
def Size.bytes : Size → Nat
  | .b1 => 1
  | .b2 => 2
  | .b4 => 4
  | .b8 => 8
  | .b32 => 32

/-- The hint a READ or WRITE carries (R5). -/
inductive Hint where
  | none
  | posted
  | device
  deriving DecidableEq, Repr

/-- A command: one indivisible event at the part. -/
inductive Instr where
  /-- READ: a READ request frame arrives (R164). -/
  | read (initiator : Initiator) (tag : Tag) (address : Addr) (size : Size) (hint : Hint)
  /-- WRITE: a WRITE request frame arrives (R167). -/
  | write (initiator : Initiator) (tag : Tag) (address : Addr) (size : Size) (hint : Hint) (data : List Byte)
  /-- LOCKED_READ: a LOCKED_READ request frame arrives (R127). -/
  | lockedRead (initiator : Initiator) (tag : Tag) (address : Addr) (size : Size)
  /-- LOCKED_WRITE: a LOCKED_WRITE request frame arrives (R133). -/
  | lockedWrite (initiator : Initiator) (tag : Tag) (address : Addr) (size : Size) (data : List Byte)
  /-- LOCK_DROP: a LOCK_DROP request frame arrives (R136). -/
  | lockDrop (initiator : Initiator) (tag : Tag)
  /-- FENCE: a FENCE request frame arrives (R69). -/
  | fence (initiator : Initiator) (tag : Tag)
  /-- DISCARD: a DISCARD request frame arrives (R117). -/
  | discard (initiator : Initiator) (tag : Tag)
  /-- MALFORMED_REQUEST: a request frame, given as its 64-bit header and data bytes (12.2), arrives and is
  not well formed (R160). -/
  | malformedRequest (header : BitVec 64) (data : List Byte)
  /-- FRAME_DISCARDED_IN_RESET: a request frame is received while the link is IN_RESET (R159). -/
  | frameDiscardedInReset (header : BitVec 64) (data : List Byte)
  /-- LINK_RESET: the fabric signals a link reset (R171). -/
  | linkReset
  /-- LINK_UP: the fabric signals that the link is up again (R173). -/
  | linkUp
  /-- POWER_ON_RESET: RESET_N is sampled low (R201). -/
  | powerOnReset
  /-- POWER_ON_RESET_END: RESET_N is first sampled high; mcV is the level of MC_V then (R98, R201). -/
  | powerOnResetEnd (mcV : Bool)
  /-- COMPLETION: a completion frame arrives, given as its byte 0 and its data bytes (12.3, R82). -/
  | completion (head : Byte) (data : List Byte)
  /-- MEMORY_TIMER_EXPIRY (R83). -/
  | memoryTimerExpiry
  /-- MERGE_TIMER_EXPIRY of the Posting Queue entry with this sequence number (R31). -/
  | mergeTimerExpiry (entry : Nat)
  /-- DRAIN_TIMER_EXPIRY of the Posting Queue entry with this sequence number (R41). -/
  | drainTimerExpiry (entry : Nat)
  /-- PACING_EXPIRY for this region (R95). -/
  | pacingExpiry (region : RegionIndex)
  /-- RETENTION_TIMER_EXPIRY of the capture in this place (R118). -/
  | retentionTimerExpiry (place : Fin 8)
  /-- LOCK_TIMER_EXPIRY of this slot (R137). -/
  | lockTimerExpiry (slot : Fin 2)
  /-- RESERVATION_TIMER_EXPIRY (R150). -/
  | reservationTimerExpiry
  /-- FRAME_START: CS_N falls (R186). -/
  | frameStart
  /-- FRAME_END: CS_N rises (R188). -/
  | frameEnd
  /-- BAD_COMMAND: an undefined command byte is received in COMMAND (R187). -/
  | badCommand (byte : Byte)
  /-- STATUS: its command byte is received in COMMAND (R191). -/
  | status
  /-- READ_REGION: its last argument byte is received (R12). -/
  | readRegion (last : Byte)
  /-- WRITE_REGION: its last argument byte is received (R11). -/
  | writeRegion (last : Byte)
  /-- COPY_ACTIVE: its command byte is received (R13). -/
  | copyActive
  /-- COMMIT: its command byte is received (R14). -/
  | commit
  /-- READ_PROFILE: its last argument byte is received (R194). -/
  | readProfile (last : Byte)
  /-- WRITE_PROFILE: its last argument byte is received (R194). -/
  | writeProfile (last : Byte)
  /-- READ_LIMIT: its last argument byte is received (R197). -/
  | readLimit (last : Byte)
  /-- WRITE_LIMIT: its last argument byte is received (R197). -/
  | writeLimit (last : Byte)
  /-- POP_FAULT: its command byte is received (R181). -/
  | popFault
  /-- ABANDON: its command byte is received (R89). -/
  | abandon
  /-- SOFT_RESET: its command byte is received (R198). -/
  | softReset
  /-- BYTE_RECEIVED: a byte is received that does not complete a command (R186). -/
  | byteReceived (byte : Byte)
  /-- BYTE_POSITION_CLOCKED: a byte position is clocked in RESPONSE or TRAILING; the byte on MOSI is
  ignored there (R186). -/
  | bytePositionClocked (mosi : Byte)
  /-- MC_V_FALLING: MC_V falls (R98). -/
  | mcVFalling
  deriving DecidableEq, Repr

end Sys2Proof
end

