-- ==== Sys2Proof/Machine/State.lean ====
section
/-! DEFINITION. The state of the FC340, block by block as 00_scope.md section 2 lists them, as plain data, and
the state right after power-on reset. -/

namespace Sys2Proof.Machine

open Sys2Proof

/-- The level of a pin. -/
inductive Level where
  | low
  | high
  | highImpedance
  deriving DecidableEq, Repr

/-- The direction of an access (R78). -/
inductive Direction where
  | read
  | write
  deriving DecidableEq, Repr

/-- The access classes, weakest first (R1). -/
inductive AccessClass where
  | merge
  | posted
  | device
  | blocked
  deriving DecidableEq, Repr

/-- The capture mode of a region (1.2). -/
inductive CaptureMode where
  | none
  | split
  deriving DecidableEq, Repr

/-- The locking permission of a region (1.2). -/
inductive Locking where
  | allowed
  | forbidden
  deriving DecidableEq, Repr

/-- The settings an entry and the default region share (1.2). -/
structure RegionSettings where
  cls : AccessClass
  profile : ProfileIndex
  captureMode : CaptureMode
  locking : Locking
  deriving DecidableEq, Repr

/-- One Region Table entry (1.2). -/
structure RegionEntry where
  valid : Bool
  base : Page
  limit : Page
  settings : RegionSettings
  deriving DecidableEq, Repr

/-- A Region Table: sixteen entries and the default region (1.2). -/
structure RegionTable where
  entries : Vector RegionEntry 16
  defaultRegion : RegionSettings
  deriving DecidableEq, Repr

/-- The Region Classifier: the Active and the Shadow Region Table (R10). -/
structure RegionClassifier where
  active : RegionTable
  shadow : RegionTable
  deriving DecidableEq, Repr

/-- The states of a Posting Queue entry: OPEN, SEALED, ISSUED (2.1.1). -/
inductive EntryState where
  | opened
  | sealed
  | issued
  deriving DecidableEq, Repr

/-- A Posting Queue entry (2.1). `mergeExpiry` and `drainExpiry` are the ticks at which the running timers
expire; none is a timer that is stopped or has expired. -/
structure PostingEntry where
  seq : Nat
  line : Addr
  mask : Mask
  data : List Byte
  cls : AccessClass
  region : RegionIndex
  profile : ProfileIndex
  contributors : List Initiator
  state : EntryState
  heldBehind : Option Nat
  mergeExpiry : Option Nat
  drainExpiry : Option Nat
  overdue : Bool
  deriving DecidableEq, Repr

/-- The kinds of Wait List request that make an access (3.1). -/
inductive AccessKind where
  | read
  | write
  | lockedRead
  | lockedWrite
  deriving DecidableEq, Repr

/-- The fields of a Wait List entry that a FENCE lacks (3.1). `waitsFor` names Posting Queue entries by sequence
number; `claimed` is the capture claim. -/
structure WaitAccess where
  kind : AccessKind
  address : Addr
  size : Size
  cls : AccessClass
  region : RegionIndex
  profile : ProfileIndex
  captureMode : CaptureMode
  data : List Byte
  waitsFor : List Nat
  claimed : Bool
  deriving DecidableEq, Repr

/-- What a Wait List request waits to do: make an access, or, for a FENCE, see its fence set empty. The fence
set names Posting Queue entries and Wait List requests by sequence number (R69). -/
inductive WaitWork where
  | access (a : WaitAccess)
  | fence (entries : List Nat) (requests : List Nat)
  deriving DecidableEq, Repr

/-- The states of a Wait List entry (R55). -/
inductive WaitState where
  | waiting
  | issued
  deriving DecidableEq, Repr

/-- A Wait List entry (3.1). -/
structure WaitEntry where
  seq : Nat
  initiator : Initiator
  tag : Tag
  state : WaitState
  work : WaitWork
  deriving DecidableEq, Repr

/-- To whom the outcome of the awaited access is delivered (4.2). -/
inductive Requester where
  | head
  | request (seq : Nat)
  | orphan
  | none
  deriving DecidableEq, Repr

/-- The awaited record of the Memory Port (4.2). -/
structure Awaited where
  number : AccessNumber
  operation : Direction
  region : RegionIndex
  requester : Requester
  deriving DecidableEq, Repr

/-- The state of the Memory Port: an awaited access exists in BUSY and in STALLED and in no other state, and the
memory timer runs in BUSY alone (4.2). -/
inductive PortState where
  | ready
  | busy (awaited : Awaited) (expiry : Nat)
  | stalled (awaited : Awaited)
  deriving DecidableEq, Repr

/-- An access as the Memory Port presents it to the target (R78). -/
structure Access where
  number : AccessNumber
  operation : Direction
  address : Addr
  size : Size
  mask : Mask
  data : List Byte
  deriving DecidableEq, Repr

/-- The Memory Port. `accesses` records every access presented, oldest first, and `mqOut` holds the bytes of
access frames still to be presented on MQ_D (log entries 5, 6). -/
structure MemoryPort where
  state : PortState
  counter : AccessNumber
  accesses : List Access
  mqOut : List Byte
  deriving DecidableEq, Repr

/-- A pacing profile, in ticks (4.5). -/
structure PacingProfile where
  readGap : Fin 256
  writeGap : Fin 256
  turnaround : Fin 16
  deriving DecidableEq, Repr

/-- A pace record: the last direction (none for NONE) and the last completion time (4.6). -/
structure PaceRecord where
  last : Option Direction
  time : Nat
  deriving DecidableEq, Repr

/-- The candidates a pacing expiry is kept for: the Posting Queue head and WAITING requests (R95). -/
inductive Candidate where
  | head
  | request (seq : Nat)
  deriving DecidableEq, Repr

/-- A pacing expiry the Pacing Unit keeps for a candidate (R95). -/
structure KeptExpiry where
  candidate : Candidate
  region : RegionIndex
  tick : Nat
  deriving DecidableEq, Repr

/-- The Pacing Unit (R92, R93, R95). -/
structure PacingUnit where
  profiles : Vector PacingProfile 4
  records : Vector PaceRecord 17
  kept : List KeptExpiry
  deriving DecidableEq, Repr

/-- The outcome a capture records (5.1). -/
inductive CaptureResult where
  | ok
  | portError
  | portTimeout
  deriving DecidableEq, Repr

/-- The key of a capture: what a REPLAY or a SPLIT capture records (5.1). -/
inductive CaptureKey where
  | replay (tag : Tag) (address : Addr) (size : Size)
  | split (word : Addr) (lowTag highTag : Option Tag)
  deriving DecidableEq, Repr

/-- A capture; `expiry` is the tick at which its retention timer expires (5.1). -/
structure Capture where
  initiator : Initiator
  key : CaptureKey
  result : CaptureResult
  data : List Byte
  expiry : Nat
  deriving DecidableEq, Repr

/-- A place of the Capture Table: free, claimed, holding, or holding and claimed (R99). The claim names the
issued read by sequence number. -/
structure Place where
  capture : Option Capture
  claim : Option Nat
  deriving DecidableEq, Repr

/-- A lock slot (6.1). `request` is the sequence number of the LOCKED_READ or LOCKED_WRITE; `expiry` is the tick
at which the lock timer expires. -/
inductive LockSlot where
  | free
  | pending (owner : Initiator) (line : Addr) (request : Nat)
  | held (owner : Initiator) (line : Addr) (expiry : Nat)
  | closing (owner : Initiator) (line : Addr) (request : Nat)
  deriving DecidableEq, Repr

/-- The Lock Unit: two slots and a broken-lock marker for each initiator (6.1). -/
structure LockUnit where
  slots : Vector LockSlot 2
  markers : Vector (Option Addr) 8
  deriving DecidableEq, Repr

/-- The wanted resource of the Favoured List head (7.1). The value none stands for NONE and for absent
(log entry 14). -/
inductive Wanted where
  | none
  | queueEntry
  | lockSlot
  | line (line : Addr)
  deriving DecidableEq, Repr

/-- The Progress Monitor (7.1). `reservation` is the tick at which the running reservation timer expires. -/
structure ProgressMonitor where
  counts : Vector (Fin 16) 8
  favoured : List Initiator
  wanted : Wanted
  reservation : Option Nat
  deriving DecidableEq, Repr

/-- The kind of a fault record with the fields the kind carries (R178). -/
inductive FaultBody where
  | writeError (contributors : List Initiator) (line : Addr) (mask : Mask)
  | writeTimeout (contributors : List Initiator) (line : Addr) (mask : Mask)
  | lockBroken (initiator : Initiator) (line : Addr)
  | lateCompletion (number : AccessNumber)
  | discarded (count : Nat)
  deriving DecidableEq, Repr

/-- A fault record (R178). -/
structure FaultRecord where
  seq : BitVec 16
  body : FaultBody
  overflow : Fin 256
  deriving DecidableEq, Repr

/-- The Fault Queue, oldest record first, and its output FAULT_N (9.1, R183). -/
structure FaultQueue where
  records : List FaultRecord
  next : BitVec 16
  faultN : Level
  deriving DecidableEq, Repr

/-- The twelve commands of the Management Port (10.3). -/
inductive Command where
  | status
  | readRegion
  | writeRegion
  | copyActive
  | commit
  | readProfile
  | writeProfile
  | readLimit
  | writeLimit
  | popFault
  | abandon
  | softReset
  deriving DecidableEq, Repr

/-- The phase of the current frame with what it keeps (10.1). A command of none is the undefined command. -/
inductive FramePhase where
  | idle
  | command
  | arguments (command : Command) (received : List Byte)
  | response (command : Option Command) (bytes : List Byte) (sent : Nat)
  | trailing (command : Option Command) (bytes : List Byte)
  | ignore
  deriving DecidableEq, Repr

/-- The eight limits (10.5). -/
structure Limits where
  retryThreshold : Nat
  lockTimeout : Nat
  captureRetention : Nat
  memoryTimeout : Nat
  mergeAge : Nat
  drainAge : Nat
  highWater : Nat
  reservationTimeout : Nat
  deriving DecidableEq, Repr

/-- The Management Port. `miso` records the bytes driven on MISO, oldest first (log entry 5); MISO is high impedance, and
none is driven, before the first power-on reset (R201). -/
structure ManagementPort where
  phase : FramePhase
  limits : Limits
  miso : List Byte
  deriving DecidableEq, Repr

/-- The link state (R159). -/
inductive LinkState where
  | up
  | inReset
  deriving DecidableEq, Repr

/-- The statuses of a response (R161). -/
inductive Status where
  | done
  | writeTaken
  | replayed
  | retry
  | declined
  | malformed
  | protocol
  | limit
  | lockLost
  | portError
  | portTimeout
  | abandoned
  deriving DecidableEq, Repr

/-- The reasons of a RETRY or DECLINED response (R163). -/
inductive Reason where
  | queueFull
  | lineLocked
  | noLockSlot
  | reserved
  | blockedRegion
  | lockingForbidden
  deriving DecidableEq, Repr

/-- Where the data of a DONE came from (R161). -/
inductive Source where
  | memory
  | queue
  | latch
  deriving DecidableEq, Repr

/-- A response frame's contents (R161). -/
structure Response where
  initiator : Initiator
  tag : Tag
  status : Status
  reason : Option Reason
  source : Option Source
  data : List Byte
  deriving DecidableEq, Repr

/-- The Fabric Port. The outstanding count of an initiator is the size of its tag set (R166). `responses` records
the responses sent, oldest first (log entry 5). -/
structure FabricPort where
  link : LinkState
  outTags : Vector (List Tag) 8
  nextSeq : Nat
  responses : List Response
  deriving DecidableEq, Repr

/-- The pins the blocks do not hold themselves (12.6): whether REFCLK runs, whether RESET_N is sampled low,
whether it has been since power was applied, whether CS_N is low, and whether a completion frame that was in
progress at the end of a power-on reset is still being discarded (R98). -/
structure Pins where
  refclkRunning : Bool
  resetLow : Bool
  hadReset : Bool
  csLow : Bool
  mcDiscard : Bool
  deriving DecidableEq, Repr

/-- The state of the part, and the queue of commands that are waiting. `freeCount` is the model's own counter
that the free values are applied to (log entry 15). -/
structure State where
  pending : List Instr
  tick : Nat
  pins : Pins
  fabric : FabricPort
  regions : RegionClassifier
  posting : List PostingEntry
  waiting : List WaitEntry
  port : MemoryPort
  pacing : PacingUnit
  captures : Vector Place 8
  locks : LockUnit
  progress : ProgressMonitor
  faults : FaultQueue
  mgmt : ManagementPort
  freeCount : Nat
  deriving DecidableEq, Repr

/-- The reasons to stop with a fault. There is none: the spec gives every command a next state, so nothing raises
a fault. This is safe: no behaviour of the part is cut off. -/
inductive Fault where
  deriving DecidableEq, Repr

/-- The reasons to refuse a command. -/
inductive Refusal where
  /-- Raised by an arm of exec whose command has no meaning yet; no arm raises it now. Safe: it stops. -/
  | notModelled (mnemonic : String)
  deriving DecidableEq, Repr

/-- The settings of an entry at power-on (R21). -/
def RegionSettings.powerOnEntry : RegionSettings :=
  { cls := .posted, profile := 0, captureMode := .none, locking := .allowed }

/-- The settings of the default region at power-on (R21). -/
def RegionSettings.powerOnDefault : RegionSettings :=
  { cls := .device, profile := 0, captureMode := .none, locking := .allowed }

/-- A Region Table at power-on (R21). -/
def RegionTable.powerOn : RegionTable :=
  { entries := Vector.replicate 16
      { valid := false, base := 0, limit := 0, settings := RegionSettings.powerOnEntry },
    defaultRegion := RegionSettings.powerOnDefault }

/-- The limits at power-on (10.5). -/
def Limits.powerOn : Limits :=
  { retryThreshold := 6, lockTimeout := 2000, captureRetention := 4096, memoryTimeout := 10000,
    mergeAge := 32, drainAge := 512, highWater := 12, reservationTimeout := 1000 }

/-- A pacing profile at power-on (R92). -/
def PacingProfile.powerOn : PacingProfile := { readGap := 64, writeGap := 64, turnaround := 0 }

/-- A pace record without history (R96). -/
def PaceRecord.clear : PaceRecord := { last := none, time := 0 }

/-- A free place (R99). -/
def Place.free : Place := { capture := none, claim := none }

/-- The Progress Monitor with nothing counted and nobody favoured (R156, R157, R158). -/
def ProgressMonitor.clear : ProgressMonitor :=
  { counts := Vector.replicate 8 0, favoured := [], wanted := .none, reservation := none }

/-- The Lock Unit with no lock and no marker (R141, R142, R143). -/
def LockUnit.clear : LockUnit :=
  { slots := Vector.replicate 2 .free, markers := Vector.replicate 8 none }

/-- The machine right after power-on reset: RESET_N has just been sampled high, CS_N and MC_V are taken to be
inactive and REFCLK to run (log entry 11), the link is IN_RESET until the fabric signals it up (R176), and every
block holds its power-on values. -/
def State.reset : State :=
  { pending := [],
    tick := 0,
    pins := { refclkRunning := true, resetLow := false, hadReset := true, csLow := false, mcDiscard := false },
    fabric := { link := .inReset, outTags := Vector.replicate 8 [], nextSeq := 0, responses := [] },
    regions := { active := RegionTable.powerOn, shadow := RegionTable.powerOn },
    posting := [],
    waiting := [],
    port := { state := .ready, counter := 0, accesses := [], mqOut := [] },
    pacing := { profiles := Vector.replicate 4 PacingProfile.powerOn,
                records := Vector.replicate 17 PaceRecord.clear, kept := [] },
    captures := Vector.replicate 8 Place.free,
    locks := LockUnit.clear,
    progress := ProgressMonitor.clear,
    faults := { records := [], next := 0, faultN := .high },
    mgmt := { phase := .idle, limits := Limits.powerOn, miso := [] },
    freeCount := 0 }

end Sys2Proof.Machine
end

