-- ==== Sys2Proof/Machine/Operands.lean ====
section
/-! DEFINITION. Lines, words, pages and byte masks; the contents of a request frame and what makes one well formed
(R160, R199); the frames the part sends and receives as bytes (12.2, 12.3, 12.4). -/

namespace Sys2Proof.Machine

/-! ### Addresses within lines, words and pages -/

/-- The line of an address: the address with the lowest five bits cleared (R59, R125). -/
def lineOf (a : Addr) : Addr := a &&& 0xFFFFFFFFE0#40

/-- The word of an address: the aligned 8-byte block it lies in (00_scope.md, 4.2). -/
def wordOf (a : Addr) : Addr := a &&& 0xFFFFFFFFF8#40

/-- The page number of an address (00_scope.md, 4.2). -/
def pageOf (a : Addr) : Page := a.extractLsb' 12 28

/-- The position of an address's byte within its line. -/
def lineOffset (a : Addr) : Nat := a.toNat % 32

/-- Whether an address lies in the high half of its word (00_scope.md, 4.2). -/
def inHighHalf (a : Addr) : Bool := a.getLsbD 2

/-- The mask of the bytes of a line that an access of this address and size covers. -/
def byteMask (a : Addr) (size : Size) : Mask := BitVec.ofNat 32 ((2 ^ size.bytes - 1) * 2 ^ lineOffset a)

/-- Whether two masks share a byte. -/
def overlaps (m n : Mask) : Bool := m &&& n ≠ 0#32

/-- Whether the first mask holds every byte of the second. -/
def covers (m n : Mask) : Bool := m &&& n = n

/-- Whether an address is a multiple of a size (R160). -/
def aligned (a : Addr) (size : Size) : Bool := a.toNat % size.bytes = 0

/-- Whether a request of this address and size reaches the word w: a 32-byte request covers the four words of its
line, a smaller one the one word it lies in (R114, R115). -/
def reachesWord (a : Addr) (size : Size) (w : Addr) : Bool :=
  match size with
  | .b32 => lineOf w = lineOf a
  | .b1 | .b2 | .b4 | .b8 => w = wordOf a

/-- Replace the bytes of a line from an offset on (R27). -/
def overwrite (line : List Byte) (offset : Nat) (bytes : List Byte) : List Byte :=
  line.take offset ++ bytes ++ line.drop (offset + bytes.length)

/-- The bytes of a line that a request of this address and size names. -/
def bytesOf (line : List Byte) (a : Addr) (size : Size) : List Byte :=
  (line.drop (lineOffset a)).take size.bytes

/-- The half of a word's 8 bytes that a 4-byte read of this address names (R103). -/
def halfOf (word : List Byte) (a : Addr) : List Byte :=
  if inHighHalf a then word.drop 4 else word.take 4

/-! ### Requests -/

/-- The kind of a request with the fields its kind calls for (R160). -/
inductive RequestKind where
  | read (address : Addr) (size : Size) (hint : Hint)
  | write (address : Addr) (size : Size) (hint : Hint) (data : List Byte)
  | lockedRead (address : Addr) (size : Size)
  | lockedWrite (address : Addr) (size : Size) (data : List Byte)
  | lockDrop
  | fence
  | discard
  deriving DecidableEq, Repr

/-- A request: its sender, its tag and what is asked (R160). -/
structure Request where
  initiator : Initiator
  tag : Tag
  kind : RequestKind
  deriving DecidableEq, Repr

/-- The fields of a request agree with one another: the address is a multiple of the size and the data is as
long as the size (R160). -/
def RequestKind.wellFormed : RequestKind → Bool
  | .read a size _ => aligned a size
  | .write a size _ data => aligned a size && data.length == size.bytes
  | .lockedRead a size => aligned a size
  | .lockedWrite a size data => aligned a size && data.length == size.bytes
  | .lockDrop | .fence | .discard => true

/-- A response to a request with a status and nothing else (R161). -/
def Request.answer (r : Request) (status : Status) : Response :=
  { initiator := r.initiator, tag := r.tag, status := status, reason := none, source := none, data := [] }

/-- A refusal that carries a reason (R163). -/
def Request.answerReason (r : Request) (status : Status) (reason : Reason) : Response :=
  { r.answer status with reason := some reason }

/-- A DONE to a read, with its source and data (R161). -/
def Request.answerData (r : Request) (source : Source) (data : List Byte) : Response :=
  { r.answer .done with source := some source, data := data }

/-! ### Request frames (12.2, R199) -/

/-- Bits 2..0 of a request header. -/
def headerInitiator (h : BitVec 64) : Initiator := Fin.ofNat 8 (h.extractLsb' 0 3).toNat

/-- Bits 6..3 of a request header. -/
def headerTag (h : BitVec 64) : Tag := Fin.ofNat 16 (h.extractLsb' 3 4).toNat

/-- Bits 10..7 of a request header. -/
def headerKind (h : BitVec 64) : Nat := (h.extractLsb' 7 4).toNat

/-- Bits 13..11 of a request header. -/
def headerSizeCode (h : BitVec 64) : Nat := (h.extractLsb' 11 3).toNat

/-- Bit 14 of a request header. -/
def headerAddressPresent (h : BitVec 64) : Bool := h.getLsbD 14

/-- Bits 16..15 of a request header. -/
def headerHintCode (h : BitVec 64) : Nat := (h.extractLsb' 15 2).toNat

/-- Bits 23..17 of a request header. -/
def headerDataLength (h : BitVec 64) : Nat := (h.extractLsb' 17 7).toNat

/-- Bits 63..24 of a request header. -/
def headerAddress (h : BitVec 64) : Addr := h.extractLsb' 24 40

/-- The size a size code names; none for 0 (absent) and for an undefined code (12.1). -/
def sizeOfCode : Nat → Option Size
  | 1 => some .b1
  | 2 => some .b2
  | 3 => some .b4
  | 4 => some .b8
  | 5 => some .b32
  | _ => none

/-- The size code of a size (12.1). -/
def sizeCode : Size → Nat
  | .b1 => 1
  | .b2 => 2
  | .b4 => 3
  | .b8 => 4
  | .b32 => 5

/-- The hint a hint code names; none for 0, which means absent (12.1). -/
def hintOfCode : Nat → Option Hint
  | 1 => some .none
  | 2 => some .posted
  | 3 => some .device
  | _ => none

/-- The hint code of a hint (12.1). -/
def hintCode : Hint → Nat
  | .none => 1
  | .posted => 2
  | .device => 3

/-- The address and size of a frame that must carry both (R160). -/
def frameTarget (h : BitVec 64) : Option (Addr × Size) :=
  if headerAddressPresent h then (sizeOfCode (headerSizeCode h)).map (headerAddress h, ·) else none

/-- The address, size, hint and data length fields of a frame are all absent (R160, R199). -/
def frameBare (h : BitVec 64) : Bool :=
  !headerAddressPresent h && headerSizeCode h == 0 && headerHintCode h == 0 && headerDataLength h == 0

/-- The kind and fields of a request frame, or none where a field's presence or code is not as its kind's row of
R160 requires. That the address is aligned and the data as long as the size is `RequestKind.wellFormed`. -/
def decodeKind (h : BitVec 64) (data : List Byte) : Option RequestKind :=
  match headerKind h with
  | 0 =>
    match frameTarget h, hintOfCode (headerHintCode h), headerDataLength h with
    | some (a, size), some hint, 0 => some (.read a size hint)
    | _, _, _ => none
  | 1 =>
    match frameTarget h, hintOfCode (headerHintCode h) with
    | some (a, size), some hint => if headerDataLength h = data.length then some (.write a size hint data) else none
    | _, _ => none
  | 2 =>
    match frameTarget h, headerHintCode h, headerDataLength h with
    | some (a, size), 0, 0 => some (.lockedRead a size)
    | _, _, _ => none
  | 3 =>
    match frameTarget h, headerHintCode h with
    | some (a, size), 0 => if headerDataLength h = data.length then some (.lockedWrite a size data) else none
    | _, _ => none
  | 4 => if frameBare h then some .lockDrop else none
  | 5 => if frameBare h then some .fence else none
  | 6 => if frameBare h then some .discard else none
  | _ => none

/-- The request a frame carries, or none where the frame is not well formed (R160, R199). -/
def decodeRequest (h : BitVec 64) (data : List Byte) : Option Request :=
  match decodeKind h data with
  | some k =>
    if k.wellFormed then some { initiator := headerInitiator h, tag := headerTag h, kind := k } else none
  | none => none

/-- The kind code, size code, address-present bit, hint code and address of a request's header (12.1, 12.2). -/
def RequestKind.headerFields : RequestKind → Nat × Nat × Nat × Nat × Addr
  | .read a size hint => (0, sizeCode size, 1, hintCode hint, a)
  | .write a size hint _ => (1, sizeCode size, 1, hintCode hint, a)
  | .lockedRead a size => (2, sizeCode size, 1, 0, a)
  | .lockedWrite a size _ => (3, sizeCode size, 1, 0, a)
  | .lockDrop => (4, 0, 0, 0, 0)
  | .fence => (5, 0, 0, 0, 0)
  | .discard => (6, 0, 0, 0, 0)

/-- The data of a request; none where its kind carries none. -/
def RequestKind.data : RequestKind → List Byte
  | .write _ _ _ data => data
  | .lockedWrite _ _ data => data
  | .read .. | .lockedRead .. | .lockDrop | .fence | .discard => []

/-- The 64-bit header the fabric sends for a request (12.2). -/
def Request.header (r : Request) : BitVec 64 :=
  let (kind, size, present, hint, address) := r.kind.headerFields
  BitVec.ofNat 64
    (r.initiator.val + r.tag.val * 2 ^ 3 + kind * 2 ^ 7 + size * 2 ^ 11 + present * 2 ^ 14 + hint * 2 ^ 15
      + r.kind.data.length * 2 ^ 17 + address.toNat * 2 ^ 24)

/-! ### Response frames (12.2) -/

/-- Status codes (12.1). -/
def Status.code : Status → Nat
  | .done => 0
  | .writeTaken => 1
  | .replayed => 2
  | .retry => 3
  | .declined => 4
  | .malformed => 5
  | .protocol => 6
  | .limit => 7
  | .lockLost => 8
  | .portError => 9
  | .portTimeout => 10
  | .abandoned => 11

/-- Reason codes; 0 when absent (12.1). -/
def reasonCode : Option Reason → Nat
  | none => 0
  | some .queueFull => 1
  | some .lineLocked => 2
  | some .noLockSlot => 3
  | some .reserved => 4
  | some .blockedRegion => 5
  | some .lockingForbidden => 6

/-- Source codes; 0 when absent (12.1). -/
def sourceCode : Option Source → Nat
  | none => 0
  | some .memory => 1
  | some .queue => 2
  | some .latch => 3

/-- The 32-bit header of a response frame; bits 31..22 are zero (12.2). -/
def Response.header (r : Response) : BitVec 32 :=
  BitVec.ofNat 32
    (r.initiator.val + r.tag.val * 2 ^ 3 + r.status.code * 2 ^ 7 + reasonCode r.reason * 2 ^ 11
      + sourceCode r.source * 2 ^ 14 + (r.data.length % 64) * 2 ^ 16)

/-- The bytes of a field, least significant byte first, n of them. -/
def littleEndian (n : Nat) (v : Nat) : List Byte :=
  match n with
  | 0 => []
  | k + 1 => BitVec.ofNat 8 v :: littleEndian k (v / 256)

/-- The bytes of a field, most significant byte first, n of them (12.4). -/
def bigEndian (n : Nat) (v : Nat) : List Byte := (littleEndian n v).reverse

/-- The number that bytes make, most significant byte first (12.4). -/
def ofBigEndian (bytes : List Byte) : Nat := bytes.foldl (fun v b => v * 256 + b.toNat) 0

/-- A response frame as bytes: the header with bits 7..0 first, then the data (12.2). -/
def Response.frame (r : Response) : List Byte := littleEndian 4 r.header.toNat ++ r.data

/-! ### Memory Port frames (12.3) -/

/-- The operation code of an access (12.3). -/
def Direction.code : Direction → Nat
  | .read => 0
  | .write => 1

/-- An access frame as bytes (12.3). -/
def Access.frame (a : Access) : List Byte :=
  BitVec.ofNat 8 (a.number.val + a.operation.code * 2 ^ 4 + sizeCode a.size * 2 ^ 5)
    :: littleEndian 5 a.address.toNat ++ littleEndian 4 a.mask.toNat
    ++ (match a.operation with
        | .read => []
        | .write => a.data)

/-- The access number of a completion frame: bits 3..0 of byte 0 (12.3). -/
def completionNumber (head : Byte) : AccessNumber := Fin.ofNat 16 (head.extractLsb' 0 4).toNat

/-- Whether a completion frame's result is OK: bit 4 of byte 0 is 0 (12.3). Bits 7..5 are ignored. -/
def completionOk (head : Byte) : Bool := !head.getLsbD 4

/-! ### Management Port encodings (12.1, 12.4) -/

/-- The command a command byte names (12.4). -/
def Command.ofCode (b : Byte) : Option Command :=
  match b.toNat with
  | 0x01 => some .status
  | 0x10 => some .readRegion
  | 0x11 => some .writeRegion
  | 0x12 => some .copyActive
  | 0x13 => some .commit
  | 0x20 => some .readProfile
  | 0x21 => some .writeProfile
  | 0x30 => some .readLimit
  | 0x31 => some .writeLimit
  | 0x40 => some .popFault
  | 0x50 => some .abandon
  | 0x5A => some .softReset
  | _ => none

/-- How many argument bytes a command takes (12.4). -/
def Command.argumentBytes : Command → Nat
  | .status | .copyActive | .commit | .popFault | .abandon | .softReset => 0
  | .readRegion => 2
  | .writeRegion => 14
  | .readProfile => 1
  | .writeProfile => 4
  | .readLimit => 1
  | .writeLimit => 3

/-- Class codes (12.1). -/
def AccessClass.code : AccessClass → Byte
  | .merge => 0x00
  | .posted => 0x01
  | .device => 0x02
  | .blocked => 0x03

/-- The class a class code names (12.1). -/
def AccessClass.ofCode (b : Byte) : Option AccessClass :=
  match b.toNat with
  | 0 => some .merge
  | 1 => some .posted
  | 2 => some .device
  | 3 => some .blocked
  | _ => none

/-- Capture mode codes (12.4). -/
def CaptureMode.code : CaptureMode → Byte
  | .none => 0x00
  | .split => 0x01

/-- The capture mode a code names (12.4). -/
def CaptureMode.ofCode (b : Byte) : Option CaptureMode :=
  match b.toNat with
  | 0 => some .none
  | 1 => some .split
  | _ => none

/-- Locking codes (12.4). -/
def Locking.code : Locking → Byte
  | .allowed => 0x00
  | .forbidden => 0x01

/-- The locking permission a code names (12.4). -/
def Locking.ofCode (b : Byte) : Option Locking :=
  match b.toNat with
  | 0 => some .allowed
  | 1 => some .forbidden
  | _ => none

/-- The valid field a code names (12.4). -/
def validOfCode (b : Byte) : Option Bool :=
  match b.toNat with
  | 0 => some false
  | 1 => some true
  | _ => none

/-- The page number four bytes carry, none above 0FFFFFFFh (12.4, R199). -/
def pageOfBytes (bytes : List Byte) : Option Page :=
  if ofBigEndian bytes < 2 ^ 28 then some (BitVec.ofNat 28 (ofBigEndian bytes)) else none

/-- The profile number a byte carries, none above 3 (12.4). -/
def profileOfByte (b : Byte) : Option ProfileIndex :=
  if h : b.toNat < 4 then some ⟨b.toNat, h⟩ else none

/-- The last four bytes of a region encoding (12.4). -/
def RegionSettings.encode (r : RegionSettings) : List Byte :=
  [r.cls.code, BitVec.ofNat 8 r.profile.val, r.captureMode.code, r.locking.code]

/-- The 13 bytes of a region encoding (12.4). -/
def RegionEntry.encode (e : RegionEntry) : List Byte :=
  (if e.valid then 0x01#8 else 0x00#8) :: bigEndian 4 e.base.toNat ++ bigEndian 4 e.limit.toNat
    ++ e.settings.encode

/-- The settings that bytes 9..12 of a region encoding carry, none where a code is undefined (12.4, R192). -/
def decodeSettings (bytes : List Byte) : Option RegionSettings := do
  let cls ← AccessClass.ofCode (bytes.getD 9 0)
  let profile ← profileOfByte (bytes.getD 10 0)
  let captureMode ← CaptureMode.ofCode (bytes.getD 11 0)
  let locking ← Locking.ofCode (bytes.getD 12 0)
  return { cls, profile, captureMode, locking }

/-- The entry that a region encoding carries, none where a code is undefined or a page too large (12.4, R192). -/
def decodeEntry (bytes : List Byte) : Option RegionEntry := do
  let valid ← validOfCode (bytes.getD 0 0)
  let base ← pageOfBytes ((bytes.drop 1).take 4)
  let limit ← pageOfBytes ((bytes.drop 5).take 4)
  let settings ← decodeSettings bytes
  return { valid, base, limit, settings }

/-- Initiator sets as one byte: bit n set for initiator n (12.4). -/
def initiatorBits (l : List Initiator) : Byte :=
  BitVec.ofNat 8 (((List.finRange 8).map fun i => if i ∈ l then 2 ^ i.val else 0).sum)

/-- The fields of a fault record between its sequence number and its overflow count: kind, contributor set,
initiator, line address, byte mask, access number, count. A field the kind does not carry is FFh in every byte
(12.4). -/
def FaultBody.encode : FaultBody → List Byte
  | .writeError c line mask =>
    0x01#8 :: initiatorBits c :: 0xFF#8 :: bigEndian 5 line.toNat ++ bigEndian 4 mask.toNat ++ [0xFF, 0xFF]
  | .writeTimeout c line mask =>
    0x02#8 :: initiatorBits c :: 0xFF#8 :: bigEndian 5 line.toNat ++ bigEndian 4 mask.toNat ++ [0xFF, 0xFF]
  | .lockBroken i line =>
    0x03#8 :: 0xFF#8 :: BitVec.ofNat 8 i.val :: bigEndian 5 line.toNat ++ List.replicate 4 0xFF ++ [0xFF, 0xFF]
  | .lateCompletion n =>
    0x04#8 :: 0xFF#8 :: 0xFF#8 :: List.replicate 5 0xFF ++ List.replicate 4 0xFF ++ [BitVec.ofNat 8 n.val, 0xFF]
  | .discarded n =>
    0x05#8 :: 0xFF#8 :: 0xFF#8 :: List.replicate 5 0xFF ++ List.replicate 4 0xFF ++ [0xFF, BitVec.ofNat 8 n]

/-- The 17 bytes of a fault record (12.4). -/
def FaultRecord.encode (r : FaultRecord) : List Byte :=
  bigEndian 2 r.seq.toNat ++ r.body.encode ++ [BitVec.ofNat 8 r.overflow.val]

/-! ### Limits (10.5, 12.4) -/

/-- The eight limits (10.5). -/
inductive LimitName where
  | retryThreshold
  | lockTimeout
  | captureRetention
  | memoryTimeout
  | mergeAge
  | drainAge
  | highWater
  | reservationTimeout
  deriving DecidableEq, Repr

/-- The limit an identifier names (12.4). -/
def LimitName.ofCode (b : Byte) : Option LimitName :=
  match b.toNat with
  | 1 => some .retryThreshold
  | 2 => some .lockTimeout
  | 3 => some .captureRetention
  | 4 => some .memoryTimeout
  | 5 => some .mergeAge
  | 6 => some .drainAge
  | 7 => some .highWater
  | 8 => some .reservationTimeout
  | _ => none

/-- The least value of a limit (10.5). -/
def LimitName.least : LimitName → Nat
  | .retryThreshold => 1
  | .lockTimeout => 16
  | .captureRetention => 64
  | .memoryTimeout => 256
  | .mergeAge => 0
  | .drainAge => 16
  | .highWater => 1
  | .reservationTimeout => 64

/-- The greatest value of a limit (10.5). -/
def LimitName.greatest : LimitName → Nat
  | .retryThreshold => 15
  | .lockTimeout => 65535
  | .captureRetention => 65535
  | .memoryTimeout => 65535
  | .mergeAge => 255
  | .drainAge => 4095
  | .highWater => 16
  | .reservationTimeout => 65535

/-- Whether a value lies in the range of a limit (10.5). -/
def LimitName.inRange (n : LimitName) (v : Nat) : Bool := n.least ≤ v && v ≤ n.greatest

/-- The value of a limit. -/
def Limits.get (l : Limits) : LimitName → Nat
  | .retryThreshold => l.retryThreshold
  | .lockTimeout => l.lockTimeout
  | .captureRetention => l.captureRetention
  | .memoryTimeout => l.memoryTimeout
  | .mergeAge => l.mergeAge
  | .drainAge => l.drainAge
  | .highWater => l.highWater
  | .reservationTimeout => l.reservationTimeout

/-- Replace one limit. -/
def Limits.set (l : Limits) (n : LimitName) (v : Nat) : Limits :=
  match n with
  | .retryThreshold => { l with retryThreshold := v }
  | .lockTimeout => { l with lockTimeout := v }
  | .captureRetention => { l with captureRetention := v }
  | .memoryTimeout => { l with memoryTimeout := v }
  | .mergeAge => { l with mergeAge := v }
  | .drainAge => { l with drainAge := v }
  | .highWater => { l with highWater := v }
  | .reservationTimeout => { l with reservationTimeout := v }

end Sys2Proof.Machine
end

