-- ==== Sys2Proof/WellFormed.lean ====
section
/-! DEFINITION. Which commands are well formed: the operands are ones the frame, byte or timer of the row can carry
(R160, R199, 12.2, 12.3). The meanings need no such check: every command has a next state. -/

namespace Sys2Proof

open Sys2Proof.Machine

/-- The operands of a command are such as its row's event can have. -/
def Instr.wellFormed : Instr → Bool
  | .read _ _ a size _ => aligned a size
  | .write _ _ a size _ data => aligned a size && data.length == size.bytes
  | .lockedRead _ _ a size => aligned a size
  | .lockedWrite _ _ a size data => aligned a size && data.length == size.bytes
  | .malformedRequest h data => headerDataLength h == data.length && (decodeRequest h data).isNone
  | .frameDiscardedInReset h data => headerDataLength h == data.length
  | .completion _ data => data.length ≤ 255
  | .badCommand b => (Command.ofCode b).isNone
  | .lockDrop .. | .fence .. | .discard .. | .linkReset | .linkUp | .powerOnReset | .powerOnResetEnd _ => true
  | .memoryTimerExpiry | .mergeTimerExpiry _ | .drainTimerExpiry _ | .pacingExpiry _ => true
  | .retentionTimerExpiry _ | .lockTimerExpiry _ | .reservationTimerExpiry => true
  | .frameStart | .frameEnd | .status | .readRegion _ | .writeRegion _ | .copyActive | .commit => true
  | .readProfile _ | .writeProfile _ | .readLimit _ | .writeLimit _ | .popFault | .abandon | .softReset => true
  | .byteReceived _ | .bytePositionClocked _ | .mcVFalling => true

end Sys2Proof
end

