-- ==== Sys2Proof/Decode.lean ====
section
/-! DEFINITION. The commands that words of spec/opcode_table.json spell: the table gives no row any bits, so no word
spells a command. The frames of chapter 12 are decoded in Machine/Operands.lean (requests, completions) and
Machine/Management.lean (command bytes). -/

namespace Sys2Proof

/-- The command that a word of the table's bits spells: none, since no row of the table has bits (98_reader.md: 0 rows
with fixed bits, 0 with fields). -/
def decodeTableWord (_nbits _w : Nat) : Option Instr := none

end Sys2Proof
end

