-- ==== Sys2Proof/Machine/Ops.lean ====
section
/-! DEFINITION. Operations the blocks share: maps over a fixed number of like things, the free order, the outputs of
the Fabric Port, and the Progress Monitor that every response passes through (R144 to R154). -/

namespace Sys2Proof.Machine

/-- Apply a function to each of a fixed number of like things. -/
def vmap {α β : Type} {n : Nat} (f : α → β) (v : Vector α n) : Vector β n :=
  ⟨(v.toList.map f).toArray, by simp⟩

/-- How many of a fixed number of like things satisfy a test. -/
def vcount {α : Type} {n : Nat} (p : α → Bool) (v : Vector α n) : Nat := v.toList.countP p

/-- The first index at which a test holds. -/
def vfind {α : Type} {n : Nat} (p : α → Bool) (v : Vector α n) : Option (Fin n) :=
  (List.finRange n).find? fun k => p (v.get k)

/-- Replace the thing at an index. -/
def vset {α : Type} {n : Nat} (v : Vector α n) (k : Fin n) (x : α) : Vector α n := v.set k.val x k.isLt

/-- The position at which the free value puts one thing among n others. -/
def freePosition (k n : Nat) : Nat := Config.freeChoice k % (n + 1)

/-- A list in an order the spec leaves open: any order can come about, as the free value says, from the k-th free
value on (log entry 4). -/
def freeOrder {α : Type} (k : Nat) : List α → List α
  | [] => []
  | [x] => [x]
  | x :: y :: rest =>
    let ys := freeOrder (k + 1) (y :: rest)
    let p := freePosition k ys.length
    ys.take p ++ x :: ys.drop p

/-- One member of a list, chosen by the free value where there are several (log entry 3). -/
def freePick {α : Type} (k : Nat) : List α → Option α
  | [] => none
  | [x] => some x
  | x :: rest => some ((x :: rest).getD (freePosition k rest.length) x)

/-! ### The Progress Monitor (R144 to R150) -/

/-- Why a request is refused RETRY; LINE_LOCKED is handed over with the line of the request (R144, R163). -/
inductive RetryCause where
  | queueFull
  | lineLocked (line : Addr)
  | noLockSlot
  | reserved
  deriving DecidableEq, Repr

/-- The reason field of a RETRY (R163). -/
def RetryCause.reason : RetryCause → Reason
  | .queueFull => .queueFull
  | .lineLocked _ => .lineLocked
  | .noLockSlot => .noLockSlot
  | .reserved => .reserved

/-- The wanted resource after a refusal of the head (R149). -/
def RetryCause.wanted (old : Wanted) : RetryCause → Wanted
  | .queueFull => .queueEntry
  | .lineLocked line => .line line
  | .noLockSlot => .lockSlot
  | .reserved => old

/-- The count after a RETRY: one more, saturating at 15 (R145). -/
def countUp (c : Fin 16) : Fin 16 := if h : c.val + 1 < 16 then ⟨c.val + 1, h⟩ else 15

/-- Whether an initiator is the head of the Favoured List. -/
def ProgressMonitor.isHead (p : ProgressMonitor) (i : Initiator) : Bool := p.favoured.head? == some i

/-- Remove the head: the wanted resource is cleared, and a member that is promoted wants NONE and starts the
timer (R147, R148, R150). -/
def ProgressMonitor.dropHead (p : ProgressMonitor) (expiry : Nat) : ProgressMonitor :=
  { p with
    favoured := p.favoured.tail
    wanted := .none
    reservation := if p.favoured.tail.isEmpty then none else some expiry }

/-- A response of the other group reaches the monitor: the count becomes 0 and a member leaves the list (R145,
R147). `expiry` is the tick at which a reservation timer started now expires. -/
def ProgressMonitor.other (p : ProgressMonitor) (i : Initiator) (expiry : Nat) : ProgressMonitor :=
  let q := { p with counts := vset p.counts i 0 }
  if p.isHead i then q.dropHead expiry else { q with favoured := q.favoured.filter (· != i) }

/-- A RETRY reaches the monitor: the count rises (R145), an initiator at the threshold joins the list (R146), and the
head's refusal sets the wanted resource and starts or restarts the timer (R148, R149, R150). -/
def ProgressMonitor.retry (p : ProgressMonitor) (i : Initiator) (cause : RetryCause) (threshold expiry : Nat) :
    ProgressMonitor :=
  let count := countUp (p.counts.get i)
  let joins := threshold ≤ count.val ∧ i ∉ p.favoured
  let favoured := if joins then p.favoured ++ [i] else p.favoured
  let q := { p with counts := vset p.counts i count, favoured := favoured }
  if q.isHead i then { q with wanted := cause.wanted p.wanted, reservation := some expiry } else q

/-- Whether the head holds a reservation that stands against this initiator's request (R151). -/
def ProgressMonitor.reservedAgainst (p : ProgressMonitor) (i : Initiator) (w : Wanted) : Bool :=
  match p.favoured with
  | [] => false
  | h :: _ => h != i && p.wanted == w

namespace State

/-- The tick at which a reservation timer started now expires (R150, R155). -/
def reservationExpiry (s : State) : Nat := s.tick + s.mgmt.limits.reservationTimeout

/-- A response leaves on the response channel (R169). -/
def send (s : State) (r : Response) : State :=
  { s with fabric := { s.fabric with responses := s.fabric.responses ++ [r] } }

/-- Give a response of the other group: it passes through the Progress Monitor and leaves (R144, R145, R147). -/
def respond (s : State) (r : Response) : State :=
  { s.send r with progress := s.progress.other r.initiator s.reservationExpiry }

/-- Refuse a request RETRY: the response passes through the Progress Monitor and leaves (R144 to R149). -/
def refuseRetry (s : State) (r : Request) (cause : RetryCause) : State :=
  { s.send (r.answerReason .retry cause.reason) with
    progress := s.progress.retry r.initiator cause s.mgmt.limits.retryThreshold s.reservationExpiry }

/-- Give several responses of the other group at one event: they leave one after another in any order (R169), and
each passes through the Progress Monitor. -/
def respondAll (s : State) (rs : List Response) : State :=
  (freeOrder s.freeCount rs).foldl respond { s with freeCount := s.freeCount + rs.length }

end State

end Sys2Proof.Machine
end

