-- ==== Sys2Proof/Machine/Flags.lean ====
section
/-! DEFINITION. The Fault Queue and its output FAULT_N (R177 to R185), the occupancies that STATUS reports (R191), and
the pins as the outside sees them (12.6, R201). -/

namespace Sys2Proof.Machine

/-- One more fault lost: the overflow count rises by 1 and stays at 255 (R180). -/
def FaultRecord.countLost (r : FaultRecord) : FaultRecord :=
  { r with overflow := if h : r.overflow.val + 1 < 256 then ⟨r.overflow.val + 1, h⟩ else 255 }

/-- Count a lost fault in the youngest record (R180). -/
def countLostInLast : List FaultRecord → List FaultRecord
  | [] => []
  | [r] => [r.countLost]
  | r :: rest => r :: countLostInLast rest

/-- A block hands over a fault: it is stored at the tail with the next number and FAULT_N is low (R179, R183), or,
while 8 records are held, it is counted (R180). -/
def FaultQueue.handOver (q : FaultQueue) (body : FaultBody) : FaultQueue :=
  if q.records.length < 8 then
    { records := q.records ++ [{ seq := q.next, body := body, overflow := 0 }], next := q.next + 1, faultN := .low }
  else { q with records := countLostInLast q.records }

/-- The record that was read out is removed from the head; FAULT_N goes high with the last one (R181, R183). -/
def FaultQueue.removeHead (q : FaultQueue) : FaultQueue :=
  match q.records with
  | [] => q
  | [_] => { q with records := [], faultN := .high }
  | _ :: rest => { q with records := rest }

/-- The number of places of the Capture Table in use: a place is in use while it holds a capture, a claim or both
(R99). -/
def Place.inUse (p : Place) : Bool := p.capture.isSome || p.claim.isSome

/-- A slot that is not FREE (R123). -/
def LockSlot.inUse : LockSlot → Bool
  | .free => false
  | .pending .. | .held .. | .closing .. => true

/-- The code of the port state (12.1). -/
def PortState.code : PortState → Byte
  | .ready => 0x00
  | .busy .. => 0x01
  | .stalled .. => 0x02

namespace State

/-- Hand a fault to the Fault Queue. -/
def handOver (s : State) (body : FaultBody) : State := { s with faults := s.faults.handOver body }

/-- Capture Table places in use (R99). -/
def placesInUse (s : State) : Nat := vcount Place.inUse s.captures

/-- Lock slots not FREE (R123). -/
def slotsInUse (s : State) : Nat := vcount LockSlot.inUse s.locks.slots

/-- An initiator's outstanding count: the size of its outstanding tag set (R166). -/
def outstandingCount (s : State) (i : Initiator) : Nat := (s.fabric.outTags.get i).length

/-- The bytes that STATUS returns after its result, all taken at one event (R191, 12.4). -/
def statusBytes (s : State) : List Byte :=
  Config.vendorCode :: Config.partCode ++ [Config.revision, s.port.state.code,
    BitVec.ofNat 8 s.posting.length, BitVec.ofNat 8 s.waiting.length, BitVec.ofNat 8 s.placesInUse,
    BitVec.ofNat 8 s.slotsInUse, BitVec.ofNat 8 s.progress.favoured.length,
    BitVec.ofNat 8 s.faults.records.length]

/-- The FAULT_N pin: high impedance before the first power-on reset (R183, R201). -/
def faultNPin (s : State) : Level := if s.pins.hadReset then s.faults.faultN else .highImpedance

/-- The MQ_V pin: high while bytes of an access frame are presented (12.6, R201). -/
def mqVPin (s : State) : Level :=
  if !s.pins.hadReset then .highImpedance else if s.port.mqOut.isEmpty then .low else .high

/-- The byte on MQ_D while MQ_V is high (12.6). -/
def mqDPin (s : State) : Option Byte := s.port.mqOut.head?

/-- Whether MISO is driven: only while CS_N is low, and never before the first power-on reset (12.6, R189). -/
def misoDriven (s : State) : Bool := s.pins.hadReset && s.pins.csLow

end State

end Sys2Proof.Machine
end

