-- ==== Sys2Proof/Machine/Regions.lean ====
section
/-! DEFINITION. The Region Classifier (R1 to R22): the ranking of classes, classification, and the validation and
installation of the Shadow Region Table. -/

namespace Sys2Proof.Machine

/-- The place of a class in the ranking MERGE, POSTED, DEVICE, BLOCKED (R1). -/
def AccessClass.rank : AccessClass → Nat
  | .merge => 0
  | .posted => 1
  | .device => 2
  | .blocked => 3

/-- The stronger of two classes (R1). -/
def AccessClass.stronger (c d : AccessClass) : AccessClass := if c.rank ≤ d.rank then d else c

/-- A valid entry matches the pages of its range (R2). -/
def RegionEntry.covers (e : RegionEntry) (p : Page) : Bool :=
  e.valid && e.base.toNat ≤ p.toNat && p.toNat ≤ e.limit.toNat

/-- The indexes of the valid entries that match a page, lowest first (R4). -/
def RegionTable.matching (t : RegionTable) (p : Page) : List (Fin 16) :=
  (List.finRange 16).filter fun k => (t.entries.get k).covers p

/-- The class of the entry at an index. -/
def RegionTable.classAt (t : RegionTable) (k : Fin 16) : AccessClass := (t.entries.get k).settings.cls

/-- The strongest class among entries (R4, step 1); the weakest where there is none. -/
def RegionTable.strongest (t : RegionTable) (ks : List (Fin 16)) : AccessClass :=
  ks.foldl (fun c k => c.stronger (t.classAt k)) .merge

/-- Resolve an address: the region's settings, its class among them, and its index (R3, R4). -/
def RegionTable.resolve (t : RegionTable) (a : Addr) : RegionSettings × RegionIndex :=
  let ks := t.matching (pageOf a)
  match ks.find? fun k => t.classAt k == t.strongest ks with
  | some k => ((t.entries.get k).settings, k.castSucc)
  | none => (t.defaultRegion, 16)

/-- The effective class of a READ or WRITE (R5). -/
def effectiveClass (region : AccessClass) : Hint → AccessClass
  | .none => region
  | .posted => region.stronger .posted
  | .device => region.stronger .device

/-- The classification record of R8. -/
structure Classification where
  cls : AccessClass
  region : RegionIndex
  profile : ProfileIndex
  captureMode : CaptureMode
  locking : Locking
  deriving DecidableEq, Repr

/-- Classify a request by its address and hint; a locked request has hint NONE (R5, R6, R8). -/
def RegionTable.classify (t : RegionTable) (a : Addr) (hint : Hint) : Classification :=
  let (r, k) := t.resolve a
  let cls := effectiveClass r.cls hint
  { cls := cls
    region := k
    profile := r.profile
    captureMode := if cls = .device ∧ r.cls ≠ .device then .none else r.captureMode
    locking := r.locking }

/-- The capture test of R15: SPLIT only with DEVICE. -/
def RegionSettings.captureTest (r : RegionSettings) : Bool := r.captureMode != .split || r.cls == .device

/-- The range test and the capture test of an entry; an entry that is not valid is not tested (R15). -/
def RegionEntry.passes (e : RegionEntry) : Bool :=
  !e.valid || (e.base.toNat ≤ e.limit.toNat && e.settings.captureTest)

/-- The failing index of a table: the lowest index 0..15 that fails, then 16 for the default region; none where
the table is valid (R15). -/
def RegionTable.failingIndex (t : RegionTable) : Option RegionIndex :=
  match vfind (fun e => !e.passes) t.entries with
  | some k => some k.castSucc
  | none => if t.defaultRegion.captureTest then none else some 16

end Sys2Proof.Machine
end

