-- ==== Sys2Proof/Machine/Pacing.lean ====
section
/-! DEFINITION. The Pacing Unit (R92 to R96): profiles, pace records, the required spacing, and the pacing expiries
it keeps for waiting candidates. -/

namespace Sys2Proof.Machine

/-- The gap of a profile for a direction (R94). -/
def PacingProfile.gap (p : PacingProfile) : Direction → Nat
  | .read => p.readGap.val
  | .write => p.writeGap.val

/-- The required spacing of an access after a record: none where the record holds no history (R94). -/
def PacingUnit.spacing (u : PacingUnit) (r : RegionIndex) (p : ProfileIndex) (d : Direction) : Option Nat :=
  match (u.records.get r).last with
  | none => none
  | some last =>
    some ((u.profiles.get p).gap d + if last = d then 0 else (u.profiles.get p).turnaround.val)

/-- The tick from which an access is pacing-eligible; none where it is eligible whatever the tick (R94, R95). -/
def PacingUnit.eligibleFrom (u : PacingUnit) (r : RegionIndex) (p : ProfileIndex) (d : Direction) : Option Nat :=
  (u.spacing r p d).map fun n => (u.records.get r).time + n

/-- Whether an access is pacing-eligible at a tick (R94). -/
def PacingUnit.eligible (u : PacingUnit) (r : RegionIndex) (p : ProfileIndex) (d : Direction) (tick : Nat) : Bool :=
  match u.eligibleFrom r p d with
  | none => true
  | some e => e ≤ tick

/-- A completion updates the record of its region (R93). -/
def PacingUnit.record (u : PacingUnit) (r : RegionIndex) (d : Direction) (tick : Nat) : PacingUnit :=
  { u with records := vset u.records r { last := some d, time := tick } }

/-- All seventeen records are cleared (R96). -/
def PacingUnit.clearRecords (u : PacingUnit) : PacingUnit :=
  { u with records := Vector.replicate 17 PaceRecord.clear }

/-- The direction of a kind of request (R60, R64). -/
def AccessKind.direction : AccessKind → Direction
  | .read | .lockedRead => .read
  | .write | .lockedWrite => .write

/-- A candidate for the Memory Port, with what the Pacing Unit judges it by (R94, R95). -/
structure Paced where
  candidate : Candidate
  region : RegionIndex
  profile : ProfileIndex
  direction : Direction
  deriving DecidableEq, Repr

/-- The Posting Queue head as a candidate, unless it is ISSUED (R95). -/
def headPaced : List PostingEntry → List Paced
  | [] => []
  | e :: _ =>
    match e.state with
    | .issued => []
    | .opened | .sealed => [{ candidate := .head, region := e.region, profile := e.profile, direction := .write }]

/-- A WAITING request that makes an access as a candidate (R95). -/
def WaitEntry.paced (w : WaitEntry) : Option Paced :=
  match w.state, w.work with
  | .waiting, .access a =>
    some { candidate := .request w.seq, region := a.region, profile := a.profile, direction := a.kind.direction }
  | .waiting, .fence _ _ => none
  | .issued, _ => none

/-- The expiry to keep for a candidate: one at the tick its spacing ends, while that tick is to come, or while the
event of a kept expiry that has been reached is still to be taken (R95). -/
def PacingUnit.keep (u : PacingUnit) (tick : Nat) (c : Paced) : Option KeptExpiry :=
  match u.eligibleFrom c.region c.profile c.direction with
  | none => none
  | some e =>
    let k : KeptExpiry := { candidate := c.candidate, region := c.region, tick := e }
    if tick < e ∨ k ∈ u.kept then some k else none

namespace State

/-- The candidates that pacing expiries are kept for (R95). -/
def paced (s : State) : List Paced := headPaced s.posting ++ s.waiting.filterMap WaitEntry.paced

/-- Compute the kept expiries anew, after an event that changed an input of one (R95). -/
def keepPacing (s : State) : State :=
  { s with pacing := { s.pacing with kept := s.paced.filterMap (s.pacing.keep s.tick) } }

end State

end Sys2Proof.Machine
end

