-- ==== Sys2Proof/Machine/Captures.lean ====
section
/-! DEFINITION. The Capture Table (R99 to R122): the lookup at arrival, latch answers, removals, claims and the filling
of a claimed place. -/

namespace Sys2Proof.Machine

/-- A capture records a tag of an initiator (R100, R106). -/
def Capture.recordsTag (c : Capture) (i : Initiator) (t : Tag) : Bool :=
  c.initiator = i &&
    match c.key with
    | .replay tag _ _ => tag = t
    | .split _ low high => low = some t || high = some t

/-- A capture records a read of (initiator, tag, address, size): for a SPLIT capture the 4-byte read of the half whose
tag it is (R106, step 1). -/
def Capture.recordsRead (c : Capture) (i : Initiator) (t : Tag) (a : Addr) (size : Size) : Bool :=
  c.initiator = i &&
    match c.key with
    | .replay tag address sz => tag = t && address = a && sz = size
    | .split word low high =>
      size = .b4 && ((low = some t && a = word) || (high = some t && a = word + 4))

/-- A SPLIT capture of an initiator for a word (R106, step 2). -/
def Capture.splitFor (c : Capture) (i : Initiator) (word : Addr) : Bool :=
  c.initiator = i &&
    match c.key with
    | .replay .. => false
    | .split w _ _ => w = word

/-- A SPLIT capture, of any initiator, for a word that a request reaches (R115). -/
def Capture.splitReached (c : Capture) (a : Addr) (size : Size) : Bool :=
  match c.key with
  | .replay .. => false
  | .split w _ _ => reachesWord a size w

/-- The part of a capture's data that a read of this address asks for: all of a REPLAY capture's, the addressed half
of a SPLIT capture's (R107, R113). -/
def Capture.dataFor (c : Capture) (a : Addr) : List Byte :=
  match c.key with
  | .replay .. => c.data
  | .split .. => halfOf c.data a

/-- The answer to an exact re-issue (R107). -/
def Capture.replayAnswer (c : Capture) (r : Request) (a : Addr) : Response :=
  match c.result with
  | .ok => { r.answer .replayed with data := c.dataFor a }
  | .portError => r.answer .portError
  | .portTimeout => r.answer .portTimeout

/-- The answer to a latch read (R113). -/
def Capture.latchAnswer (c : Capture) (r : Request) (a : Addr) : Response :=
  match c.result with
  | .ok => r.answerData .latch (c.dataFor a)
  | .portError => r.answer .portError
  | .portTimeout => r.answer .portTimeout

/-- Whether a SPLIT capture is in latch state BOTH (5.1). -/
def CaptureKey.isBoth : CaptureKey → Bool
  | .replay .. => false
  | .split _ low high => low.isSome && high.isSome

/-- Record a tag in the half an address names (R112). -/
def CaptureKey.recordHalf (k : CaptureKey) (a : Addr) (t : Tag) : CaptureKey :=
  match k with
  | .replay .. => k
  | .split w low high => if inHighHalf a then .split w low (some t) else .split w (some t) high

/-- A place holds a capture that satisfies a test. -/
def Place.holds (p : Place) (test : Capture → Bool) : Bool :=
  match p.capture with
  | some c => test c
  | none => false

/-- Remove a capture from its place where it satisfies a test; a claim on the place stays (R105, R119). -/
def Place.drop (test : Capture → Bool) (p : Place) : Place :=
  if p.holds test then { p with capture := none } else p

/-- The place an issued read claimed, by the read's sequence number (R101). -/
def Place.claimedBy (p : Place) (seq : Nat) : Bool := p.claim == some seq

namespace State

/-- The place that holds a capture satisfying a test, with the capture. -/
def findCapture (s : State) (test : Capture → Bool) : Option (Fin 8 × Capture) :=
  match vfind (fun p => p.holds test) s.captures with
  | some k =>
    match (s.captures.get k).capture with
    | some c => some (k, c)
    | none => none
  | none => none

/-- Remove every capture that satisfies a test (R119). -/
def dropCaptures (s : State) (test : Capture → Bool) : State :=
  { s with captures := vmap (Place.drop test) s.captures }

/-- Replace the capture in a place, leaving its claim. -/
def putCapture (s : State) (k : Fin 8) (c : Capture) : State :=
  { s with captures := vset s.captures k { s.captures.get k with capture := some c } }

/-- The tick at which a retention timer started or restarted now expires (R118). -/
def retentionExpiry (s : State) : Nat := s.tick + s.mgmt.limits.captureRetention

/-- Answer an exact re-issue: the capture stays and its retention timer restarts (R107). -/
def answerReplay (s : State) (r : Request) (k : Fin 8) (c : Capture) (a : Addr) : State :=
  (s.putCapture k { c with expiry := s.retentionExpiry }).respond (c.replayAnswer r a)

/-- Answer a read from a latch: every other capture recording the read's tag is removed, the latch records the tag
and its retention timer restarts (R112, R113). -/
def answerLatch (s : State) (r : Request) (k : Fin 8) (c : Capture) (a : Addr) : State :=
  ((s.dropCaptures fun d => d.recordsTag r.initiator r.tag).putCapture k
      { c with key := c.key.recordHalf a r.tag, expiry := s.retentionExpiry }).respond (c.latchAnswer r a)

/-- Step 3 of the lookup: tag reuse (R106, R108). -/
def reuseTag (s : State) (r : Request) : State := s.dropCaptures fun c => c.recordsTag r.initiator r.tag

/-- Step 2 of the lookup for a 4-byte READ (R106, R112). The Boolean says that the read has been answered. -/
def latchStep (s : State) (r : Request) (a : Addr) : Bool × State :=
  match s.findCapture fun c => c.splitFor r.initiator (wordOf a) with
  | none => (false, s.reuseTag r)
  | some (k, c) =>
    if c.key.isBoth then
      (false, (s.dropCaptures fun d => d.splitFor r.initiator (wordOf a)).reuseTag r)
    else (true, s.answerLatch r k c a)

/-- The capture lookup at an arrival (R106). The Boolean says that the request has been answered. -/
def lookup (s : State) (r : Request) : Bool × State :=
  match r.kind with
  | .read a size _ =>
    match s.findCapture fun c => c.recordsRead r.initiator r.tag a size with
    | some (k, c) => (true, s.answerReplay r k c a)
    | none => if size = .b4 then s.latchStep r a else (false, s.reuseTag r)
  | .write .. | .lockedRead .. | .lockedWrite .. | .lockDrop | .fence | .discard => (false, s.reuseTag r)

/-- The removal a wide READ or a LOCKED_READ makes at its taking: its initiator's SPLIT captures for the words it
covers (R114). -/
def dropOwnLatches (s : State) (i : Initiator) (a : Addr) (size : Size) : State :=
  s.dropCaptures fun c => c.initiator == i && c.splitReached a size

/-- The removal a write makes at its taking: every SPLIT capture for the words it overlaps (R115). -/
def dropLatches (s : State) (a : Addr) (size : Size) : State := s.dropCaptures fun c => c.splitReached a size

end State

/-- A split read: a 4-byte READ of class DEVICE with capture mode SPLIT (R111). The lookup at its arrival has left
no SPLIT capture of its initiator for its word. -/
def WaitAccess.isSplitRead (a : WaitAccess) : Bool :=
  a.kind == .read && a.size == .b4 && a.cls == .device && a.captureMode == .split

/-- A DEVICE-class READ or LOCKED_READ, which has a capture need (R61). -/
def WaitAccess.isDeviceRead (a : WaitAccess) : Bool := a.kind.direction == .read && a.cls == .device

namespace State

/-- The replacement case of R101: a split read whose initiator holds a SPLIT capture for its word, with the place. -/
def replacementPlace (s : State) (i : Initiator) (a : WaitAccess) : Option (Fin 8) :=
  if a.isSplitRead then vfind (fun p => p.holds fun c => c.splitFor i (wordOf a.address)) s.captures else none

/-- Whether the capture need of a request is met (R61, R101). -/
def captureNeedMet (s : State) (i : Initiator) (a : WaitAccess) : Bool :=
  !a.isDeviceRead || s.placesInUse < 8 || (s.replacementPlace i a).isSome

/-- The place an issued DEVICE read claims: the place of its own SPLIT capture, or a free one (R101). Which free one
is not seen from outside (log entry 12). -/
def placeToClaim (s : State) (i : Initiator) (a : WaitAccess) : Option (Fin 8) :=
  match s.replacementPlace i a with
  | some k => some k
  | none => vfind (fun p => !p.inUse) s.captures

/-- The claim an issued DEVICE read makes (R64, R101). -/
def claimPlace (s : State) (seq : Nat) (i : Initiator) (a : WaitAccess) : State :=
  match s.placeToClaim i a with
  | some k => { s with captures := vset s.captures k { s.captures.get k with claim := some seq } }
  | none => s

/-- The key of the capture a DEVICE read makes at its outcome (R102, R103, R104). -/
def captureKey (t : Tag) (a : WaitAccess) : CaptureKey :=
  if a.isSplitRead then
    if inHighHalf a.address then .split (wordOf a.address) none (some t) else .split (wordOf a.address) (some t) none
  else .replay t a.address a.size

/-- The outcome of an issued DEVICE read fills the place it claimed: the capture takes the place of any there, the
claim ends and retention starts (R102, R103, R104). -/
def fillPlace (s : State) (w : WaitEntry) (a : WaitAccess) (result : CaptureResult) (data : List Byte) : State :=
  match vfind (fun p => p.claimedBy w.seq) s.captures with
  | some k =>
    { s with
      captures := vset s.captures k
        { capture := some { initiator := w.initiator, key := captureKey w.tag a, result := result, data := data,
                            expiry := s.retentionExpiry },
          claim := none } }
  | none => s

end State

end Sys2Proof.Machine
end

