-- ==== Sys2Proof/Machine/Locks.lean ====
section
/-! DEFINITION. The Lock Unit (R123 to R143): which slot covers a line or belongs to an initiator, and the moves of a
slot. -/

namespace Sys2Proof.Machine

/-- The owner of a slot (6.1). -/
def LockSlot.owner : LockSlot → Option Initiator
  | .free => none
  | .pending o _ _ | .held o _ _ | .closing o _ _ => some o

/-- The line a slot covers (6.1). -/
def LockSlot.line : LockSlot → Option Addr
  | .free => none
  | .pending _ l _ | .held _ l _ | .closing _ l _ => some l

/-- The Wait List request a slot waits for (6.1). -/
def LockSlot.request : LockSlot → Option Nat
  | .free => none
  | .held .. => none
  | .pending _ _ n | .closing _ _ n => some n

/-- The slot an initiator owns (R123). -/
def LockUnit.ownedBy (u : LockUnit) (i : Initiator) : Option (Fin 2) := vfind (fun l => l.owner == some i) u.slots

/-- A FREE slot; which of two is not seen from outside (R123, log entry 12). -/
def LockUnit.freeSlot (u : LockUnit) : Option (Fin 2) := vfind (fun l => l == .free) u.slots

/-- Put a lock into a slot. -/
def LockUnit.put (u : LockUnit) (k : Fin 2) (l : LockSlot) : LockUnit := { u with slots := vset u.slots k l }

/-- Set or clear an initiator's broken-lock marker (R124). -/
def LockUnit.mark (u : LockUnit) (i : Initiator) (m : Option Addr) : LockUnit :=
  { u with markers := vset u.markers i m }

/-- Whether another initiator's lock covers a line (R125). -/
def LockUnit.lockedByOther (u : LockUnit) (i : Initiator) (line : Addr) : Bool :=
  u.slots.toList.any fun l => l.line == some line && l.owner != some i

/-- Whether an initiator owns the lock on a line (R126). -/
def LockUnit.ownsLine (u : LockUnit) (i : Initiator) (line : Addr) : Bool :=
  u.slots.toList.any fun l => l.line == some line && l.owner == some i

/-- The slot whose request a Wait List request is (R131, R132, R135). -/
def LockUnit.slotOf (u : LockUnit) (seq : Nat) : Option (Fin 2) := vfind (fun l => l.request == some seq) u.slots

/-- The slot after the outcome of its request: a locked read that completed OK makes it HELD with its timer started,
every other outcome makes it FREE (R131, R132, R135). -/
def LockSlot.afterOutcome (ok : Bool) (expiry : Nat) : LockSlot → LockSlot
  | .pending o line _ => if ok then .held o line expiry else .free
  | .closing _ _ _ => .free
  | .free => .free
  | .held o line e => .held o line e

/-- The outcome of a locked request reaches the Lock Unit (R131, R132, R135). -/
def LockUnit.outcome (u : LockUnit) (seq : Nat) (ok : Bool) (expiry : Nat) : LockUnit :=
  match u.slotOf seq with
  | some k => u.put k ((u.slots.get k).afterOutcome ok expiry)
  | none => u

end Sys2Proof.Machine
end

