-- ==== Sys2Proof/Machine/Posting.lean ====
section
/-! DEFINITION. The Posting Queue (R23 to R52): sealing, forwarding, waits-for sets, held-behind marks, the taking of a
posted write, and the departure of an entry. -/

namespace Sys2Proof.Machine

/-- Whether an entry is OPEN. -/
def PostingEntry.isOpen (e : PostingEntry) : Bool := e.state == .opened

/-- A sealing event at an entry: an OPEN entry becomes SEALED and its merge timer stops; nothing changes in another
(R25, R34). -/
def PostingEntry.close (e : PostingEntry) : PostingEntry :=
  if e.isOpen then { e with state := .sealed, mergeExpiry := none } else e

/-- Seal the OPEN entries that satisfy a test (R32). -/
def closeWhere (test : PostingEntry → Bool) (q : List PostingEntry) : List PostingEntry :=
  q.map fun e => if test e then e.close else e

/-- The entries for a line. -/
def entriesFor (q : List PostingEntry) (line : Addr) : List PostingEntry := q.filter fun e => e.line == line

/-- A Wait List request that is a WRITE of class DEVICE to a line (R38, R68). -/
def WaitEntry.isDeviceWriteTo (w : WaitEntry) (line : Addr) : Bool :=
  match w.work with
  | .access a => a.kind == .write && a.cls == .device && lineOf a.address == line
  | .fence _ _ => false

/-- A Wait List request that writes to a line: a WRITE or a LOCKED_WRITE (R35, condition 3). -/
def WaitEntry.isWriteTo (w : WaitEntry) (line : Addr) : Bool :=
  match w.work with
  | .access a => a.kind.direction == .write && lineOf a.address == line
  | .fence _ _ => false

/-- The sequence number of the youngest Wait List request that satisfies a test (R38, R68). -/
def youngest (test : WaitEntry → Bool) (l : List WaitEntry) : Option Nat :=
  l.foldl (fun m w =>
    if test w then
      match m with
      | none => some w.seq
      | some n => some (max n w.seq)
    else m) none

namespace State

/-- Seal the OPEN entries that satisfy a test (R32). -/
def sealWhere (s : State) (test : PostingEntry → Bool) : State := { s with posting := closeWhere test s.posting }

/-- The youngest entry for a line (R35). -/
def youngestFor (s : State) (line : Addr) : Option PostingEntry := (entriesFor s.posting line).getLast?

/-- The data with which the Posting Queue answers a MERGE-class READ; none where a condition of R35 fails. -/
def forwardData (s : State) (a : Addr) (size : Size) : Option (List Byte) :=
  match s.youngestFor (lineOf a) with
  | none => none
  | some e =>
    if covers e.mask (byteMask a size) && !(s.waiting.any fun w => w.isWriteTo (lineOf a)) then
      some (bytesOf e.data a size)
    else none

/-- The waits-for set of a request of class MERGE or POSTED; a request of class DEVICE has none (R36). -/
def waitsForSet (s : State) (kind : AccessKind) (cls : AccessClass) (a : Addr) (size : Size) : List Nat :=
  match cls with
  | .device | .blocked => []
  | .merge | .posted =>
    match kind with
    | .lockedRead => (entriesFor s.posting (lineOf a)).map (·.seq)
    | .read | .write | .lockedWrite =>
      ((entriesFor s.posting (lineOf a)).filter fun e => overlaps e.mask (byteMask a size)).map (·.seq)

/-- The mark a posted write to a line gives the entry it creates or joins: the youngest uncompleted DEVICE WRITE to
the line, or what the entry had (R38). -/
def markFor (s : State) (line : Addr) (old : Option Nat) : Option Nat :=
  match youngest (fun w => w.isDeviceWriteTo line) s.waiting with
  | some n => some n
  | none => old

end State

/-- A posted write joins an OPEN entry: its bytes, its initiator, and the mark of R38 (R27). -/
def PostingEntry.merge (e : PostingEntry) (i : Initiator) (a : Addr) (size : Size) (data : List Byte)
    (mark : Option Nat) : PostingEntry :=
  { e with
    mask := e.mask ||| byteMask a size
    data := overwrite e.data (lineOffset a) data
    contributors := if i ∈ e.contributors then e.contributors else e.contributors ++ [i]
    heldBehind := mark }

namespace State

/-- Whether a posted write of this class and line merges: it is MERGE and the line has an OPEN entry (R27). -/
def merges (s : State) (cls : AccessClass) (line : Addr) : Bool :=
  cls == .merge && s.posting.any fun e => e.isOpen && e.line == line

/-- The taking of a posted write by merge (R27). -/
def mergeWrite (s : State) (r : Request) (a : Addr) (size : Size) (data : List Byte) : State :=
  { s with
    posting := s.posting.map fun e =>
      if e.isOpen && e.line == lineOf a then
        e.merge r.initiator a size data (s.markFor (lineOf a) e.heldBehind)
      else e }

/-- The entry a posted write creates (R25, R28, R38). -/
def newEntry (s : State) (r : Request) (c : Classification) (a : Addr) (size : Size) (data : List Byte) :
    PostingEntry :=
  let opens := c.cls = .merge ∧ 0 < s.mgmt.limits.mergeAge
  { seq := s.fabric.nextSeq
    line := lineOf a
    mask := byteMask a size
    data := overwrite (List.replicate 32 0) (lineOffset a) data
    cls := c.cls
    region := c.region
    profile := c.profile
    contributors := [r.initiator]
    state := if opens then .opened else .sealed
    heldBehind := s.markFor (lineOf a) none
    mergeExpiry := if opens then some (s.tick + s.mgmt.limits.mergeAge) else none
    drainExpiry := some (s.tick + s.mgmt.limits.drainAge)
    overdue := false }

/-- The next sequence number is given out (R24). -/
def takeSeq (s : State) : State := { s with fabric := { s.fabric with nextSeq := s.fabric.nextSeq + 1 } }

/-- The taking of a posted write by a new entry at the tail; a POSTED-class write first seals its line's OPEN entry
(R28). -/
def createEntry (s : State) (r : Request) (c : Classification) (a : Addr) (size : Size) (data : List Byte) : State :=
  let q := if c.cls = .posted then closeWhere (fun e => e.line == lineOf a) s.posting else s.posting
  { s with posting := q ++ [s.newEntry r c a size data] }.takeSeq

end State

/-- The waits-for and fence sets of a Wait List request after the departure of an entry or request (R37, R47, R67). -/
def WaitEntry.release (seq : Nat) (w : WaitEntry) : WaitEntry :=
  match w.work with
  | .access a => { w with work := .access { a with waitsFor := a.waitsFor.filter (· != seq) } }
  | .fence es rs => { w with work := .fence (es.filter (· != seq)) (rs.filter (· != seq)) }

end Sys2Proof.Machine
end

