-- ==== Sys2Proof/Machine/Arbiter.lean ====
section
/-! DEFINITION. Eligibility of Wait List requests and of the Posting Queue head (R42, R56 to R63), the decision of the
Issue Arbiter (R72, R73) and the issue of an access at the Memory Port (R43, R64, R78 to R81). -/

namespace Sys2Proof.Machine

/-- A Wait List request of effective class DEVICE (R57). -/
def WaitEntry.isDevice (w : WaitEntry) : Bool :=
  match w.work with
  | .access a => a.cls == .device
  | .fence _ _ => false

/-- A Wait List request to a line (R59). -/
def WaitEntry.isTo (w : WaitEntry) (line : Addr) : Bool :=
  match w.work with
  | .access a => lineOf a.address == line
  | .fence _ _ => false

/-- A FENCE in the Wait List (3.4). -/
def WaitEntry.isFence (w : WaitEntry) : Bool :=
  match w.work with
  | .access _ => false
  | .fence _ _ => true

namespace State

/-- The ordering conditions of a request's class: R56 and R57 for DEVICE, R58 for MERGE and POSTED. -/
def classOrderMet (s : State) (seq : Nat) (a : WaitAccess) : Bool :=
  match a.cls with
  | .device =>
    s.posting.all (fun e => seq ≤ e.seq) && s.waiting.all fun v => !(v.isDevice && v.seq < seq)
  | .merge | .posted | .blocked => a.waitsFor.isEmpty

/-- No older request to the same line remains (R59). -/
def lineOrderMet (s : State) (seq : Nat) (a : WaitAccess) : Bool :=
  s.waiting.all fun v => !(v.isTo (lineOf a.address) && v.seq < seq)

/-- A WAITING request that makes an access is eligible when every condition that applies to it holds (3.2). -/
def eligible (s : State) (w : WaitEntry) : Bool :=
  match w.state, w.work with
  | .waiting, .access a =>
    s.classOrderMet w.seq a && s.lineOrderMet w.seq a &&
      s.pacing.eligible a.region a.profile a.kind.direction s.tick && s.captureNeedMet w.initiator a
  | .waiting, .fence _ _ => false
  | .issued, _ => false

/-- The Posting Queue head is drain-eligible (R42). -/
def drainEligible (s : State) : Bool :=
  match s.posting with
  | [] => false
  | e :: _ => e.state == .sealed && e.heldBehind.isNone && s.pacing.eligible e.region e.profile .write s.tick

/-- The queue is at its high-water mark, or its head is overdue (R42, R73 step 1). -/
def drainPressed (s : State) : Bool :=
  s.mgmt.limits.highWater ≤ s.posting.length || (s.posting.head?.any fun e => e.overdue)

end State

/-- What the Issue Arbiter grants the Memory Port to. -/
inductive Grant where
  | head (e : PostingEntry)
  | request (w : WaitEntry)
  deriving DecidableEq, Repr

namespace State

/-- The choice of the Issue Arbiter (R73). The Wait List is kept in sequence order (R53), so its first eligible
request is the oldest. -/
def choice (s : State) : Option Grant :=
  if s.drainEligible && s.drainPressed then s.posting.head?.map .head
  else
    match s.waiting.find? s.eligible with
    | some w => some (.request w)
    | none => if s.drainEligible then s.posting.head?.map .head else none

/-- The Memory Port presents an access: it takes the counter's number, the awaited record is made, the memory timer
starts and the port is BUSY (R78, R79, R81). Where bytes of an earlier access frame have still to leave on MQ_D, the
bytes of the new one follow them and MQ_V stays high (the model's choice: log entry 20). -/
def present (s : State) (operation : Direction) (address : Addr) (size : Size) (mask : Mask) (data : List Byte)
    (region : RegionIndex) (requester : Requester) : State :=
  let access : Access := { number := s.port.counter, operation, address, size, mask, data }
  { s with
    port :=
      { state := .busy { number := s.port.counter, operation, region, requester }
          (s.tick + s.mgmt.limits.memoryTimeout)
        counter := s.port.counter + 1
        accesses := s.port.accesses ++ [access]
        mqOut := s.port.mqOut ++ access.frame } }

/-- The issue of the Posting Queue head: one 32-byte masked write (R43). -/
def issueHead (s : State) (e : PostingEntry) : State :=
  { s with
    posting := match s.posting with
      | [] => []
      | h :: rest => { h with state := .issued } :: rest }.present .write e.line .b32 e.mask e.data e.region .head

/-- Mark a Wait List request ISSUED, and its capture claim claimed where it is a DEVICE read (R64). -/
def markIssued (s : State) (seq : Nat) : State :=
  { s with
    waiting := s.waiting.map fun w =>
      if w.seq = seq then
        match w.work with
        | .access a => { w with state := .issued, work := .access { a with claimed := a.isDeviceRead } }
        | .fence _ _ => w
      else w }

/-- The issue of a Wait List request: a split read as an 8-byte READ of its word, any other as it is; a DEVICE read
claims its place (R64). -/
def issueRequest (s : State) (w : WaitEntry) : State :=
  match w.work with
  | .fence _ _ => s
  | .access a =>
    let t := (if a.isDeviceRead then s.claimPlace w.seq w.initiator a else s).markIssued w.seq
    if a.isSplitRead then
      t.present .read (wordOf a.address) .b8 (byteMask (wordOf a.address) .b8) [] a.region (.request w.seq)
    else
      t.present a.kind.direction a.address a.size (byteMask a.address a.size) a.data a.region (.request w.seq)

/-- One decision of the Issue Arbiter: taken only while the port is READY (R72, R73). -/
def arbitrate (s : State) : State :=
  match s.port.state with
  | .ready =>
    match s.choice with
    | some (.head e) => s.issueHead e
    | some (.request w) => s.issueRequest w
    | none => s
  | .busy .. | .stalled .. => s

/-- What follows, at the same event, every change that may make a candidate eligible: the Issue Arbiter decides (R72)
and the kept pacing expiries are computed anew (R95). -/
def judge (s : State) : State := s.arbitrate.keepPacing

end State

end Sys2Proof.Machine
end

