-- ==== Sys2Proof/Machine/Outcome.lean ====
section
/-! DEFINITION. The outcome of an access: the departure of Posting Queue entries and Wait List requests (R47, R67, R70),
the answer of a request (R65, R66), and the three resets' shared parts. -/

namespace Sys2Proof.Machine

/-- The outcome the Memory Port delivers: a completion OK with its data, a completion ERROR, or the expiry of the
memory timer (R82, R83). -/
inductive PortOutcome where
  | ok (data : List Byte)
  | error
  | timeout
  deriving DecidableEq, Repr

/-- What a capture records of an outcome (R102, R104). -/
def PortOutcome.captureResult : PortOutcome → CaptureResult
  | .ok _ => .ok
  | .error => .portError
  | .timeout => .portTimeout

/-- The data of an outcome; none but for OK. -/
def PortOutcome.data : PortOutcome → List Byte
  | .ok d => d
  | .error | .timeout => []

/-- Whether an outcome is OK. -/
def PortOutcome.isOk : PortOutcome → Bool
  | .ok _ => true
  | .error | .timeout => false

/-- A FENCE whose fence set holds this entry or request and nothing else (R70). -/
def WaitEntry.isLastOf (seq : Nat) (w : WaitEntry) : Bool :=
  match w.work with
  | .access _ => false
  | .fence es rs => (es.contains seq || rs.contains seq) && (es ++ rs).all (· == seq)

/-- Whether the requester is a Wait List request (R87). -/
def Requester.isRequest : Requester → Bool
  | .request _ => true
  | .head | .orphan | .none => false

/-- A response to a Wait List request with a status and nothing else (R161). -/
def WaitEntry.answer (w : WaitEntry) (status : Status) : Response :=
  { initiator := w.initiator, tag := w.tag, status := status, reason := none, source := none, data := [] }

/-- The bytes a read is answered with: a split read its own half, any other all of the data (R65, R103). -/
def WaitAccess.answerBytes (a : WaitAccess) (data : List Byte) : List Byte :=
  if a.isSplitRead then halfOf data a.address else data

/-- The answer of a request at its outcome (R65, R66, R131, R132, R135). -/
def WaitEntry.outcomeAnswer (w : WaitEntry) (a : WaitAccess) (o : PortOutcome) : Response :=
  match o with
  | .ok data =>
    match a.kind with
    | .read | .lockedRead => { w.answer .done with source := some .memory, data := a.answerBytes data }
    | .write | .lockedWrite => w.answer .done
  | .error => w.answer .portError
  | .timeout => w.answer .portTimeout

/-- The record that accounts for a failed entry (R45, R46). -/
def PostingEntry.failure (e : PostingEntry) : PortOutcome → Option FaultBody
  | .ok _ => none
  | .error => some (.writeError e.contributors e.line e.mask)
  | .timeout => some (.writeTimeout e.contributors e.line e.mask)

namespace State

/-- A tag leaves its initiator's outstanding tag set (R165). -/
def freeTag (s : State) (i : Initiator) (t : Tag) : State :=
  { s with fabric := { s.fabric with outTags := vset s.fabric.outTags i ((s.fabric.outTags.get i).filter (· != t)) } }

/-- Requests leave the Wait List with their tags (R67, R165). -/
def removeRequests (s : State) (ws : List WaitEntry) : State :=
  ws.foldl (fun t w => t.freeTag w.initiator w.tag)
    { s with waiting := s.waiting.filter fun v => !(ws.any fun w => w.seq == v.seq) }

/-- An entry or request departs: it leaves every waits-for and fence set that holds it, and the FENCEs whose sets it
empties are answered DONE and leave, together with the answers already due at this event (R37, R47, R67, R70, R169). -/
def depart (s : State) (seq : Nat) (answers : List Response) : State :=
  let fences := s.waiting.filter (WaitEntry.isLastOf seq)
  ({ s with waiting := s.waiting.map (WaitEntry.release seq) }.removeRequests fences).respondAll
    (answers ++ fences.map fun (w : WaitEntry) => w.answer .done)

/-- Held-behind marks that name a Wait List request are cleared (R40). -/
def clearMarks (s : State) (seq : Nat) : State :=
  { s with
    posting := s.posting.map fun e => if e.heldBehind = some seq then { e with heldBehind := none } else e }

/-- Hand over a fault where there is one. -/
def handOverAny (s : State) : Option FaultBody → State
  | none => s
  | some b => s.handOver b

/-- The outcome of the issued head: it leaves the queue, and a failure is handed to the Fault Queue (R44 to R47). -/
def headOutcome (s : State) (o : PortOutcome) : State :=
  match s.posting with
  | [] => s
  | e :: rest => ({ s with posting := rest }.handOverAny (e.failure o)).depart e.seq []

/-- The outcome of an issued Wait List request: the Capture Table and the Lock Unit take their part, the request is
answered and leaves, and its departure releases what waits for it (R65, R66, R67). -/
def requestOutcome (s : State) (seq : Nat) (o : PortOutcome) : State :=
  match s.waiting.find? fun w => w.seq == seq with
  | none => s
  | some w =>
    match w.work with
    | .fence _ _ => s
    | .access a =>
      let captured := if a.claimed then s.fillPlace w a o.captureResult o.data else s
      let locked :=
        { captured with locks := s.locks.outcome seq o.isOk (s.tick + s.mgmt.limits.lockTimeout) }
      ((locked.clearMarks seq).removeRequests [w]).depart seq [w.outcomeAnswer a o]

/-- The outcome reaches the requester of the awaited access; an orphan's reaches nobody (R82, R83, R88). -/
def deliver (s : State) (requester : Requester) (o : PortOutcome) : State :=
  match requester with
  | .head => s.headOutcome o
  | .request seq => s.requestOutcome seq o
  | .orphan | .none => s

/-- Put the Memory Port into a state. -/
def setPort (s : State) (p : PortState) : State := { s with port := { s.port with state := p } }

/-- The pace record of a region takes a completion (R93). -/
def recordPace (s : State) (r : RegionIndex) (d : Direction) : State :=
  { s with pacing := s.pacing.record r d s.tick }

/-- How many bytes the awaited read is to return: 8 for a split read, else its size (R64, R80). An orphan's data is
discarded whatever its length. -/
def awaitedSize (s : State) (requester : Requester) : Option Nat :=
  match requester with
  | .request seq =>
    match s.waiting.find? fun w => w.seq == seq with
    | some w =>
      match w.work with
      | .access a => some (if a.isSplitRead then 8 else a.size.bytes)
      | .fence _ _ => none
    | none => none
  | .head | .orphan | .none => none

/-- The outcome a matching completion means: an OK READ without data, or with data of another length than the access
size, is taken as ERROR; the data of a WRITE or of an ERROR is ignored (R80). -/
def completionOutcome (s : State) (aw : Awaited) (ok : Bool) (data : List Byte) : PortOutcome :=
  if !ok then .error
  else
    match aw.operation with
    | .write => .ok []
    | .read =>
      match s.awaitedSize aw.requester with
      | some n => if data.length = n then .ok data else .error
      | none => .ok data

/-- A BUSY access becomes an orphan at a reset (R87). -/
def orphanAccess (s : State) (test : Requester → Bool) : State :=
  match s.port.state with
  | .busy aw e => if test aw.requester then s.setPort (.busy { aw with requester := .orphan } e) else s
  | .ready | .stalled _ => s

/-- What a link reset and a soft reset both clear: captures and claims, locks and markers, and the Progress Monitor
(R122, R142, R143, R157, R158). -/
def clearTraffic (s : State) : State :=
  { s with
    captures := Vector.replicate 8 Place.free
    locks := LockUnit.clear
    progress := ProgressMonitor.clear }

end State

end Sys2Proof.Machine
end

