-- ==== Sys2Proof/Machine/Fabric.lean ====
section
/-! DEFINITION. The Fabric Port (R159 to R176): the acceptance order R164 and the kind steps R167, and the meanings of
the commands that arrive on the fabric link. -/

namespace Sys2Proof.Machine

open Sys2Proof

namespace State

/-- A request joins the Wait List: it takes the next sequence number and its tag becomes outstanding (R54, R165). -/
def enterWait (s : State) (r : Request) (work : WaitWork) : State :=
  { s with
    waiting := s.waiting ++
      [{ seq := s.fabric.nextSeq, initiator := r.initiator, tag := r.tag, state := .waiting, work := work }]
    fabric :=
      { s.fabric with
        outTags := vset s.fabric.outTags r.initiator (s.fabric.outTags.get r.initiator ++ [r.tag])
        nextSeq := s.fabric.nextSeq + 1 } }

/-- The taking of a request that makes an access: OPEN entries are sealed (R32: every one for class DEVICE, else the
one for its line), then the waits-for set is made (R36) and the request joins the list (R54). -/
def takeAccess (s : State) (r : Request) (kind : AccessKind) (c : Classification) (a : Addr) (size : Size)
    (data : List Byte) : State :=
  let t := s.sealWhere fun e => c.cls == .device || e.line == lineOf a
  t.enterWait r
    (.access
      { kind := kind, address := a, size := size, cls := c.cls, region := c.region, profile := c.profile,
        captureMode := c.captureMode, data := data, waitsFor := t.waitsForSet kind c.cls a size, claimed := false })

/-- The kind step of a READ: answered from the Posting Queue (R35) or taken (R54). An 8- or 32-byte READ first removes
its initiator's latches for the words it covers (R114). -/
def kindRead (s : State) (r : Request) (c : Classification) (a : Addr) (size : Size) : State :=
  let t := if size = .b8 ∨ size = .b32 then s.dropOwnLatches r.initiator a size else s
  match if c.cls = .merge then t.forwardData a size else none with
  | some data => t.respond (r.answerData .queue data)
  | none => t.takeAccess r .read c a size []

/-- The kind step of a posted write: merge (R27), refusal (R29) or a new entry (R28). -/
def kindPosted (s : State) (r : Request) (c : Classification) (a : Addr) (size : Size) (data : List Byte) : State :=
  if s.merges c.cls (lineOf a) then
    ((s.dropLatches a size).mergeWrite r a size data).respond (r.answer .writeTaken)
  else if 16 ≤ s.posting.length then s.refuseRetry r .queueFull
  else if s.progress.reservedAgainst r.initiator .queueEntry then s.refuseRetry r .reserved
  else ((s.dropLatches a size).createEntry r c a size data).respond (r.answer .writeTaken)

/-- The kind step of a WRITE: the owner of a lock on the line is refused (R126); then posted or DEVICE (R167). -/
def kindWrite (s : State) (r : Request) (c : Classification) (a : Addr) (size : Size) (data : List Byte) : State :=
  if s.locks.ownsLine r.initiator (lineOf a) then s.respond (r.answer .protocol)
  else if c.cls = .device then (s.dropLatches a size).takeAccess r .write c a size data
  else s.kindPosted r c a size data

/-- The formation of a lock (R128). -/
def formLock (s : State) (k : Fin 2) (r : Request) (c : Classification) (a : Addr) (size : Size) : State :=
  let t := s.dropOwnLatches r.initiator a size
  { t with
    locks := (t.locks.put k (.pending r.initiator (lineOf a) s.fabric.nextSeq)).mark r.initiator none }.takeAccess
    r .lockedRead c a size []

/-- The kind step of a LOCKED_READ: the checks of R127 in order. -/
def kindLockedRead (s : State) (r : Request) (c : Classification) (a : Addr) (size : Size) : State :=
  if (s.locks.ownedBy r.initiator).isSome then s.respond (r.answer .protocol)
  else if c.locking = .forbidden then s.respond (r.answerReason .declined .lockingForbidden)
  else
    match s.locks.freeSlot with
    | none => s.refuseRetry r .noLockSlot
    | some k =>
      if s.progress.reservedAgainst r.initiator .lockSlot
          || s.progress.reservedAgainst r.initiator (.line (lineOf a)) then s.refuseRetry r .reserved
      else s.formLock k r c a size

/-- LOCK_LOST: the marker is cleared and nothing is performed (R139). -/
def answerLockLost (s : State) (r : Request) : State :=
  { s with locks := s.locks.mark r.initiator none }.respond (r.answer .lockLost)

/-- The taking of the closing write: the slot moves to CLOSING, which stops its lock timer (R134). -/
def closeLock (s : State) (k : Fin 2) (r : Request) (c : Classification) (a : Addr) (size : Size)
    (data : List Byte) : State :=
  let t := s.dropLatches a size
  { t with locks := t.locks.put k (.closing r.initiator (lineOf a) s.fabric.nextSeq) }.takeAccess
    r .lockedWrite c a size data

/-- The kind step of a LOCKED_WRITE: decided by the sender's slot and marker (R133). -/
def kindLockedWrite (s : State) (r : Request) (c : Classification) (a : Addr) (size : Size) (data : List Byte) :
    State :=
  match s.locks.ownedBy r.initiator with
  | some k =>
    match s.locks.slots.get k with
    | .held _ line _ =>
      if line = lineOf a then s.closeLock k r c a size data else s.respond (r.answer .protocol)
    | .free | .pending .. | .closing .. => s.respond (r.answer .protocol)
  | none =>
    if s.locks.markers.get r.initiator = some (lineOf a) then s.answerLockLost r else s.respond (r.answer .protocol)

/-- LOCK_DROP at the Lock Unit (R136). -/
def kindLockDrop (s : State) (r : Request) : State :=
  match s.locks.ownedBy r.initiator with
  | some k =>
    match s.locks.slots.get k with
    | .held _ _ _ => { s with locks := s.locks.put k .free }.respond (r.answer .done)
    | .free | .pending .. | .closing .. => s.respond (r.answer .protocol)
  | none =>
    if (s.locks.markers.get r.initiator).isSome then s.answerLockLost r else s.respond (r.answer .protocol)

/-- The entries of a fence set: those the fencing initiator contributed to (R69). -/
def fenceEntries (s : State) (i : Initiator) : List Nat :=
  (s.posting.filter fun e => e.contributors.contains i).map (·.seq)

/-- The requests of a fence set: the fencing initiator's, other than FENCEs (R69). -/
def fenceRequests (s : State) (i : Initiator) : List Nat :=
  (s.waiting.filter fun w => w.initiator == i && !w.isFence).map (·.seq)

/-- The taking of a FENCE: its initiator's OPEN entries are sealed and its fence set is made; an empty set is
answered DONE at once (R69, R70). -/
def kindFence (s : State) (r : Request) : State :=
  let es := s.fenceEntries r.initiator
  let rs := s.fenceRequests r.initiator
  let t := (s.sealWhere fun e => e.contributors.contains r.initiator)
  if es.isEmpty && rs.isEmpty then t.takeSeq.respond (r.answer .done) else t.enterWait r (.fence es rs)

/-- Steps 5 to 7 of the acceptance order; a refusal ends the arrival, none goes on to the kind step (R164). -/
def preCheck (s : State) (r : Request) (c : Classification) (a : Addr) (nonPosted : Bool) : Option State :=
  if c.cls = .blocked then some (s.respond (r.answerReason .declined .blockedRegion))
  else if nonPosted && 4 ≤ s.outstandingCount r.initiator then some (s.respond (r.answer .limit))
  else if s.locks.lockedByOther r.initiator (lineOf a) then some (s.refuseRetry r (.lineLocked (lineOf a)))
  else none

/-- Steps 4 to 8 of the acceptance order, for a request the capture lookup did not answer (R164). -/
def accept (s : State) (r : Request) : State :=
  match r.kind with
  | .discard => s.respond (r.answer .done)
  | .lockDrop => s.kindLockDrop r
  | .fence => if 4 ≤ s.outstandingCount r.initiator then s.respond (r.answer .limit) else s.kindFence r
  | .read a size hint =>
    let c := s.regions.active.classify a hint
    (s.preCheck r c a true).getD (s.kindRead r c a size)
  | .write a size hint data =>
    let c := s.regions.active.classify a hint
    (s.preCheck r c a (c.cls == .device)).getD (s.kindWrite r c a size data)
  | .lockedRead a size =>
    let c := s.regions.active.classify a .none
    (s.preCheck r c a true).getD (s.kindLockedRead r c a size)
  | .lockedWrite a size data =>
    let c := s.regions.active.classify a .none
    (s.preCheck r c a true).getD (s.kindLockedWrite r c a size data)

/-- Whether the head of the Posting Queue has come, or has been sealed, between two states of one event (R72). -/
def headMoved (s t : State) : Bool := s.posting.head?.map (·.state) != t.posting.head?.map (·.state)

/-- Whether a request has been taken into the Wait List between two states of one event: a sequence number has been
given out (R24, R167) and no Posting Queue entry has been created. -/
def enteredWait (s t : State) : Bool := s.fabric.nextSeq < t.fabric.nextSeq && t.posting.length == s.posting.length

/-- Whether an arrival is an event at which the Issue Arbiter decides: a request has been taken into the Wait List, a
head has been created or sealed, or a Capture Table place has been freed (R72, R119). -/
def decisionDue (s t : State) : Bool := s.enteredWait t || s.headMoved t || t.placesInUse < s.placesInUse

/-- The capture lookup and what follows it (R164, steps 3 to 8), and the decision of the Issue Arbiter where the arrival
is an event of R72. -/
def process (s : State) (r : Request) : State :=
  let (answered, t) := s.lookup r
  let u := if answered then t else t.accept r
  if s.decisionDue u then u.judge else u

/-- A request frame that is not well formed arrives: it is refused MALFORMED (R160, R164 step 1). While the link is
IN_RESET it is discarded (R159). -/
def arriveMalformed (s : State) (i : Initiator) (t : Tag) : State :=
  match s.fabric.link with
  | .inReset => s
  | .up =>
    s.respond { initiator := i, tag := t, status := .malformed, reason := none, source := none, data := [] }

/-- A request arrives: the acceptance order R164. While the link is IN_RESET the frame is discarded (R159). -/
def arrive (s : State) (r : Request) : State :=
  if !r.kind.wellFormed then s.arriveMalformed r.initiator r.tag
  else
    match s.fabric.link with
    | .inReset => s
    | .up => if r.tag ∈ s.fabric.outTags.get r.initiator then s.respond (r.answer .protocol) else s.process r

/-- A request frame is received, given by its header and data bytes (R199). -/
def arriveFrame (s : State) (header : BitVec 64) (data : List Byte) : State :=
  match decodeRequest header data with
  | some r => s.arrive r
  | none => s.arriveMalformed (headerInitiator header) (headerTag header)

/-- What a link reset takes from the Fabric Port, the Wait List and the Posting Queue: the link is IN_RESET, every tag is
free, every request is removed without a response, every held-behind mark is cleared (R52, R77, R171). -/
def dropLink (s : State) : State :=
  { s with
    fabric := { s.fabric with link := .inReset, outTags := Vector.replicate 8 [] }
    waiting := []
    posting := s.posting.map fun (e : PostingEntry) => { e with heldBehind := none } }

/-- A link reset (R171): every block takes its part (R52, R77, R87, R122, R143, R158), and at its end the Issue
Arbiter decides (log entry 19). One signalled while the link is IN_RESET changes nothing. -/
def linkReset (s : State) : State :=
  match s.fabric.link with
  | .inReset => s
  | .up => ((s.dropLink.orphanAccess Requester.isRequest).clearTraffic).judge

/-- The link returns to UP (R173). While RESET_N is low the link stays IN_RESET (R176). -/
def linkUp (s : State) : State :=
  match s.fabric.link with
  | .up => s
  | .inReset => if s.pins.resetLow then s else { s with fabric := { s.fabric with link := .up } }.judge

end State

/-- READ (R164, R167). -/
def execRead (i : Initiator) (t : Tag) (a : Addr) (size : Size) (hint : Hint) (s : State) :
    Host.Outcome State Fault Refusal :=
  .next (s.arrive { initiator := i, tag := t, kind := .read a size hint })

/-- WRITE (R164, R167). -/
def execWrite (i : Initiator) (t : Tag) (a : Addr) (size : Size) (hint : Hint) (data : List Byte) (s : State) :
    Host.Outcome State Fault Refusal :=
  .next (s.arrive { initiator := i, tag := t, kind := .write a size hint data })

/-- LOCKED_READ (R127, R164). -/
def execLockedRead (i : Initiator) (t : Tag) (a : Addr) (size : Size) (s : State) :
    Host.Outcome State Fault Refusal :=
  .next (s.arrive { initiator := i, tag := t, kind := .lockedRead a size })

/-- LOCKED_WRITE (R133, R164). -/
def execLockedWrite (i : Initiator) (t : Tag) (a : Addr) (size : Size) (data : List Byte) (s : State) :
    Host.Outcome State Fault Refusal :=
  .next (s.arrive { initiator := i, tag := t, kind := .lockedWrite a size data })

/-- LOCK_DROP (R136, R164). -/
def execLockDrop (i : Initiator) (t : Tag) (s : State) : Host.Outcome State Fault Refusal :=
  .next (s.arrive { initiator := i, tag := t, kind := .lockDrop })

/-- FENCE (R69, R164). -/
def execFence (i : Initiator) (t : Tag) (s : State) : Host.Outcome State Fault Refusal :=
  .next (s.arrive { initiator := i, tag := t, kind := .fence })

/-- DISCARD (R117, R164). -/
def execDiscard (i : Initiator) (t : Tag) (s : State) : Host.Outcome State Fault Refusal :=
  .next (s.arrive { initiator := i, tag := t, kind := .discard })

/-- MALFORMED_REQUEST (R160): the frame is checked as any other (log entry 9). -/
def execMalformedRequest (header : BitVec 64) (data : List Byte) (s : State) : Host.Outcome State Fault Refusal :=
  .next (s.arriveFrame header data)

/-- FRAME_DISCARDED_IN_RESET (R159): in state IN_RESET the frame is discarded; a frame received while the link is UP
is an arrival (log entry 9). -/
def execFrameDiscardedInReset (header : BitVec 64) (data : List Byte) (s : State) :
    Host.Outcome State Fault Refusal :=
  match s.fabric.link with
  | .inReset => .next s
  | .up => .next (s.arriveFrame header data)

/-- LINK_RESET (R171). -/
def execLinkReset (s : State) : Host.Outcome State Fault Refusal := .next s.linkReset

/-- LINK_UP (R173). -/
def execLinkUp (s : State) : Host.Outcome State Fault Refusal := .next s.linkUp

end Sys2Proof.Machine
end

