-- ==== Sys2Proof/Machine/Port.lean ====
section
/-! DEFINITION. The Memory Port's events (R82 to R90) and the meanings of COMPLETION and MC_V_FALLING. -/

namespace Sys2Proof.Machine

open Sys2Proof

namespace State

/-- A completion frame is an arrival at the Memory Port: it ends the awaited access (R82, R88), ends the stall (R85), or
is late (R86). -/
def completion (s : State) (number : AccessNumber) (ok : Bool) (data : List Byte) : State :=
  match s.port.state with
  | .ready => s.handOver (.lateCompletion number)
  | .busy aw _ =>
    if aw.number = number then
      (((s.recordPace aw.region aw.operation).setPort .ready).deliver aw.requester
        (s.completionOutcome aw ok data)).judge
    else s.handOver (.lateCompletion number)
  | .stalled aw =>
    if aw.number = number then
      (((s.recordPace aw.region aw.operation).handOver (.lateCompletion number)).setPort .ready).judge
    else s.handOver (.lateCompletion number)

/-- The memory timer of the BUSY access expires: the timeout is reported and the port is STALLED (R83, R88). -/
def memoryExpired (s : State) : State :=
  match s.port.state with
  | .busy aw _ => ((s.setPort (.stalled { aw with requester := .none })).deliver aw.requester .timeout).judge
  | .ready | .stalled _ => s

/-- ABANDON at the Memory Port: in STALLED the awaited access is dropped and the port is READY (R89). -/
def abandonStall (s : State) : State := (s.setPort .ready).judge

/-- Whether the port is STALLED. -/
def isStalled (s : State) : Bool :=
  match s.port.state with
  | .stalled _ => true
  | .ready | .busy .. => false

end State

/-- COMPLETION (R80, R82): ignored while RESET_N is low, and while a frame in progress at the end of reset is being
discarded (R98, R201). -/
def execCompletion (head : Byte) (data : List Byte) (s : State) : Host.Outcome State Fault Refusal :=
  if s.pins.resetLow || s.pins.mcDiscard then .next s
  else .next (s.completion (completionNumber head) (completionOk head) data)

/-- MC_V_FALLING (R98). -/
def execMcVFalling (s : State) : Host.Outcome State Fault Refusal :=
  .next { s with pins := { s.pins with mcDiscard := false } }

end Sys2Proof.Machine
end

