-- ==== Sys2Proof/Machine/Timers.lean ====
section
/-! DEFINITION. The timebase (R200): the running timers, the passing of time, the seven expiry commands, and what the
part does on an empty queue. -/

namespace Sys2Proof.Machine

open Sys2Proof

/-- The tick at which the lock timer of a slot expires; it runs in HELD alone (6.1). -/
def LockSlot.lockExpiry : LockSlot → Option Nat
  | .held _ _ e => some e
  | .free | .pending .. | .closing .. => none

namespace State

/-- The running memory timer (R81). -/
def memoryTimers (s : State) : List (Nat × Instr) :=
  match s.port.state with
  | .busy _ e => [(e, .memoryTimerExpiry)]
  | .ready | .stalled _ => []

/-- The running merge timers (R31). -/
def mergeTimers (s : State) : List (Nat × Instr) :=
  s.posting.filterMap fun e => e.mergeExpiry.map fun t => (t, .mergeTimerExpiry e.seq)

/-- The running drain timers (R41). -/
def drainTimers (s : State) : List (Nat × Instr) :=
  s.posting.filterMap fun e => e.drainExpiry.map fun t => (t, .drainTimerExpiry e.seq)

/-- The kept pacing expiries (R95). -/
def pacingTimers (s : State) : List (Nat × Instr) := s.pacing.kept.map fun k => (k.tick, .pacingExpiry k.region)

/-- The running retention timers (R118). -/
def retentionTimers (s : State) : List (Nat × Instr) :=
  (List.finRange 8).filterMap fun k => (s.captures.get k).capture.map fun c => (c.expiry, .retentionTimerExpiry k)

/-- The running lock timers (R137). -/
def lockTimers (s : State) : List (Nat × Instr) :=
  (List.finRange 2).filterMap fun k => (s.locks.slots.get k).lockExpiry.map fun e => (e, .lockTimerExpiry k)

/-- The running reservation timer (R150). -/
def reservationTimers (s : State) : List (Nat × Instr) :=
  match s.progress.reservation with
  | some e => [(e, .reservationTimerExpiry)]
  | none => []

/-- Every running timer and kept expiry, with the tick at which it expires and the command its expiry is. -/
def timers (s : State) : List (Nat × Instr) :=
  s.memoryTimers ++ s.mergeTimers ++ s.drainTimers ++ s.pacingTimers ++ s.retentionTimers ++ s.lockTimers
    ++ s.reservationTimers

/-- Time passes: the tick count rises by n, and n bytes of the access frame leave on MQ_D, one each REFCLK period (R200,
12.6; log entry 6). -/
def elapse (s : State) (n : Nat) : State :=
  { s with tick := s.tick + n, port := { s.port with mqOut := s.port.mqOut.drop n } }

/-- Time passes until a timer that expires at tick e does (R200). No tick elapses while REFCLK is stopped, and no
timer is passed over: where another expires earlier, that event comes first, and this one does not come about now
(log entry 2). -/
def reach (s : State) (e : Nat) : Option State :=
  if !s.pins.refclkRunning then none
  else if e ≤ s.tick then some s
  else if s.timers.all fun t => e ≤ t.1 then some (s.elapse (e - s.tick))
  else none

/-- An expiry command: the event comes about where its timer runs and time can pass to its expiry; a timer that is
stopped does not expire (log entry 2). -/
def expire (s : State) (expiry : Option Nat) (event : State → State) : State :=
  match expiry with
  | none => s
  | some e =>
    match s.reach e with
    | some t => event t
    | none => s

/-- The entry with a sequence number. -/
def entryAt (s : State) (seq : Nat) : Option PostingEntry := s.posting.find? fun e => e.seq == seq

/-- The event of a merge timer expiry: the entry, if still OPEN, becomes SEALED (R31). -/
def mergeExpired (s : State) (seq : Nat) : State := (s.sealWhere fun e => e.seq == seq).judge

/-- The drain timer of an entry has expired: the entry is overdue (R41). -/
def overdueEntry (s : State) (seq : Nat) : State :=
  { s with
    posting := s.posting.map fun e => if e.seq = seq then { e with overdue := true, drainExpiry := none } else e }

/-- The event of a drain timer expiry; at the head the Issue Arbiter decides again (R41, R72). -/
def drainExpired (s : State) (seq : Nat) : State :=
  if s.posting.head?.any fun e => e.seq == seq then (s.overdueEntry seq).judge else s.overdueEntry seq

/-- The earliest pacing expiry kept for a region (R95). -/
def keptFor (s : State) (r : RegionIndex) : Option Nat :=
  ((s.pacing.kept.filter fun k => k.region == r).map (·.tick)).min?

/-- The event of a pacing expiry for a region: the candidates whose expiry is reached are judged again (R95). -/
def pacingExpired (s : State) (r : RegionIndex) : State :=
  { s with
    pacing :=
      { s.pacing with kept := s.pacing.kept.filter fun k => !(k.region == r && k.tick ≤ s.tick) } }.judge

/-- Remove the capture in one place (R118). -/
def clearCapture (s : State) (k : Fin 8) : State :=
  { s with captures := vset s.captures k { s.captures.get k with capture := none } }

/-- The event of a retention expiry: the capture is removed; where that frees the place the Issue Arbiter decides again
(R118, R119). -/
def retentionExpired (s : State) (k : Fin 8) : State :=
  if (s.captures.get k).claim.isSome then s.clearCapture k else (s.clearCapture k).judge

/-- The event of a lock timer expiry: the slot is FREE, the owner's marker is set and a LOCK_BROKEN record is handed
over (R137). -/
def lockExpired (s : State) (k : Fin 2) : State :=
  match s.locks.slots.get k with
  | .held o line _ =>
    { s with locks := (s.locks.put k .free).mark o (some line) }.handOver (.lockBroken o line)
  | .free | .pending .. | .closing .. => s

/-- The event of a reservation timer expiry: the head is removed with its count and wanted resource, and the next
member is promoted (R150). -/
def reservationExpired (s : State) : State :=
  match s.progress.favoured with
  | [] => s
  | h :: _ =>
    { s with
      progress :=
        { s.progress with counts := vset s.progress.counts h 0 }.dropHead s.reservationExpiry }

/-- The tick at which the memory timer expires (R81). -/
def memoryExpiry (s : State) : Option Nat :=
  match s.port.state with
  | .busy _ e => some e
  | .ready | .stalled _ => none

/-- The expiry commands that are due: their tick has come (R200). -/
def due (s : State) : List Instr := (s.timers.filter fun t => t.1 ≤ s.tick).map (·.2)

/-- What the part does on an empty queue: an expiry that is due becomes the next command, any of several as the free
value says; otherwise one tick passes, unless REFCLK is stopped or RESET_N is low (R200; log entries 1, 3). Before the
first power-on reset it is the same (the model's choice: log entry 21). -/
def idle (s : State) : State :=
  if s.pins.resetLow || !s.pins.refclkRunning then s
  else
    match freePick s.freeCount s.due with
    | some c => { s with pending := [c], freeCount := s.freeCount + 1 }
    | none => s.elapse 1

end State

/-- MEMORY_TIMER_EXPIRY (R83). -/
def execMemoryTimerExpiry (s : State) : Host.Outcome State Fault Refusal :=
  .next (s.expire s.memoryExpiry State.memoryExpired)

/-- MERGE_TIMER_EXPIRY (R31). -/
def execMergeTimerExpiry (entry : Nat) (s : State) : Host.Outcome State Fault Refusal :=
  .next (s.expire ((s.entryAt entry).bind (·.mergeExpiry)) fun t => t.mergeExpired entry)

/-- DRAIN_TIMER_EXPIRY (R41). -/
def execDrainTimerExpiry (entry : Nat) (s : State) : Host.Outcome State Fault Refusal :=
  .next (s.expire ((s.entryAt entry).bind (·.drainExpiry)) fun t => t.drainExpired entry)

/-- PACING_EXPIRY (R95). -/
def execPacingExpiry (region : RegionIndex) (s : State) : Host.Outcome State Fault Refusal :=
  .next (s.expire (s.keptFor region) fun t => t.pacingExpired region)

/-- RETENTION_TIMER_EXPIRY (R118). -/
def execRetentionTimerExpiry (place : Fin 8) (s : State) : Host.Outcome State Fault Refusal :=
  .next (s.expire ((s.captures.get place).capture.map (·.expiry)) fun t => t.retentionExpired place)

/-- LOCK_TIMER_EXPIRY (R137). -/
def execLockTimerExpiry (slot : Fin 2) (s : State) : Host.Outcome State Fault Refusal :=
  .next (s.expire (s.locks.slots.get slot).lockExpiry fun t => t.lockExpired slot)

/-- RESERVATION_TIMER_EXPIRY (R150). -/
def execReservationTimerExpiry (s : State) : Host.Outcome State Fault Refusal :=
  .next (s.expire s.progress.reservation State.reservationExpired)

end Sys2Proof.Machine
end

