-- ==== Sys2Proof/Machine/Resets.lean ====
section
/-! DEFINITION. Power-on reset (R201 and the power-on rules of every chapter) and soft reset (R198). -/

namespace Sys2Proof.Machine

open Sys2Proof

namespace State

/-- Power-on reset: every block takes its power-on values, the link is IN_RESET, MQ_V is low and FAULT_N is high (R21,
R50, R75, R98, R121, R141, R156, R176, R184, R189, R201). What has been sent stays sent, and the level of CS_N is the
outside's. -/
def powerOn (s : State) : State :=
  { State.reset with
    pending := s.pending
    pins := { s.pins with resetLow := true, hadReset := true, mcDiscard := false }
    fabric := { State.reset.fabric with responses := s.fabric.responses }
    port := { State.reset.port with accesses := s.port.accesses }
    mgmt := { State.reset.mgmt with miso := s.mgmt.miso }
    freeCount := s.freeCount }

/-- RESET_N is first sampled high: that tick is tick 0; a frame that straddles it is ignored (R189), and a completion
frame in progress, with MC_V high, is discarded up to the next falling of MC_V (R98, R201). -/
def powerOnEnd (s : State) (mcV : Bool) : State :=
  { s with
    tick := 0
    pins := { s.pins with resetLow := false, mcDiscard := mcV }
    mgmt := { s.mgmt with phase := if s.pins.csLow then .ignore else .idle } }

/-- The Posting Queue's part of a soft reset: every entry is discarded, with one DISCARDED record if there was one
(R51). -/
def discardPosted (s : State) : State :=
  if s.posting.isEmpty then s else { s with posting := [] }.handOver (.discarded s.posting.length)

/-- The Wait List's part of a soft reset: every request is answered ABANDONED, the responses in any order, and its tag
is free (R76, R175). -/
def abandonRequests (s : State) : State :=
  { s with
    waiting := []
    fabric := { s.fabric with outTags := Vector.replicate 8 [] } }.respondAll
      (s.waiting.map fun (w : WaitEntry) => w.answer .abandoned)

/-- A soft reset: every block takes its part at one event (R198), and at its end the Issue Arbiter decides (R72). -/
def softReset (s : State) : State :=
  let t := (s.discardPosted.abandonRequests.orphanAccess fun _ => true).clearTraffic
  { t with pacing := t.pacing.clearRecords }.judge

end State

/-- POWER_ON_RESET (R201). RESET_N is sampled at ticks, and there is no tick while REFCLK is stopped (R200): a level
that no tick samples has no effect, and nothing changes (log entry 16). -/
def execPowerOnReset (s : State) : Host.Outcome State Fault Refusal :=
  .next (if s.pins.refclkRunning then s.powerOn else s)

/-- POWER_ON_RESET_END (R201). While RESET_N is high there is no such event, and while REFCLK is stopped no tick samples
RESET_N (R200): nothing changes (log entry 16). -/
def execPowerOnResetEnd (mcV : Bool) (s : State) : Host.Outcome State Fault Refusal :=
  .next (if s.pins.refclkRunning && s.pins.resetLow then s.powerOnEnd mcV else s)

end Sys2Proof.Machine
end

