-- ==== Sys2Proof/Machine/Management.lean ====
section
/-! DEFINITION. The Management Port (R186 to R198): the frame phases, the taking of a command with its checks and its
response bytes, and the meanings of the frame events and of the twelve commands. A command's row is the receipt of the
byte that completes it (log entry 7). -/

namespace Sys2Proof.Machine

open Sys2Proof

/-- The result codes (12.4). -/
inductive ResultCode where
  | ok
  | badCommand
  | badIndex
  | badValue
  | refused
  | invalidEntry
  | empty
  deriving DecidableEq, Repr

/-- The byte of a result (12.4). -/
def ResultCode.byte : ResultCode → Byte
  | .ok => 0x00
  | .badCommand => 0x01
  | .badIndex => 0x02
  | .badValue => 0x03
  | .refused => 0x04
  | .invalidEntry => 0x05
  | .empty => 0x06

/-- The table a READ_REGION names (12.4). -/
def RegionClassifier.tableOfCode (r : RegionClassifier) (b : Byte) : Option RegionTable :=
  match b.toNat with
  | 0 => some r.active
  | 1 => some r.shadow
  | _ => none

/-- The 13 bytes READ_REGION returns for an index; for index 16 bytes 0 to 8 are fill (R12, R192, 12.4). -/
def RegionTable.encodeAt (t : RegionTable) (index : Nat) : List Byte :=
  if h : index < 16 then (t.entries.get ⟨index, h⟩).encode
  else List.replicate 9 Config.fill ++ t.defaultRegion.encode

/-- Replace one entry of a table. -/
def RegionTable.setEntry (t : RegionTable) (k : Fin 16) (e : RegionEntry) : RegionTable :=
  { t with entries := vset t.entries k e }

/-- The profile that three bytes of WRITE_PROFILE carry; none where the turnaround is above 15 (R194). -/
def decodeProfile (readGap writeGap turnaround : Byte) : Option PacingProfile :=
  if h : turnaround.toNat < 16 then
    some { readGap := readGap.toFin, writeGap := writeGap.toFin, turnaround := ⟨turnaround.toNat, h⟩ }
  else none

/-- The bytes READ_PROFILE returns (12.4). -/
def PacingProfile.encode (p : PacingProfile) : List Byte :=
  [BitVec.ofNat 8 p.readGap.val, BitVec.ofNat 8 p.writeGap.val, BitVec.ofNat 8 p.turnaround.val]

namespace State

/-- A byte position at which there is b to drive on MISO, in a frame. Before the first power-on reset MISO is high
impedance, and nothing is driven (R201). -/
def drive (s : State) (b : Byte) : State :=
  { s with mgmt := { s.mgmt with miso := if s.pins.hadReset then s.mgmt.miso ++ [b] else s.mgmt.miso } }

/-- The frame moves to a phase. -/
def setPhase (s : State) (p : FramePhase) : State := { s with mgmt := { s.mgmt with phase := p } }

/-- The port moves to RESPONSE with the response of a command, or of an undefined command byte (R186). -/
def answerFrame (s : State) (c : Option Command) (result : ResultCode) (bytes : List Byte) : State :=
  s.setPhase (.response c (result.byte :: bytes) 0)

/-! Each command at its taking: the checks of R187 in order, its effect, and its response. -/

/-- STATUS (R191). -/
def takeStatus (s : State) : State := s.answerFrame (some .status) .ok s.statusBytes

/-- READ_REGION (R12, R192). -/
def takeReadRegion (s : State) (args : List Byte) : State :=
  let index := (args.getD 1 0).toNat
  if 16 < index then s.answerFrame (some .readRegion) .badIndex []
  else
    match s.regions.tableOfCode (args.getD 0 0) with
    | none => s.answerFrame (some .readRegion) .badValue []
    | some t => s.answerFrame (some .readRegion) .ok (t.encodeAt index)

/-- Replace an entry of the shadow table (R11). -/
def setShadowEntry (s : State) (k : Fin 16) (e : RegionEntry) : State :=
  { s with regions := { s.regions with shadow := s.regions.shadow.setEntry k e } }

/-- Replace the default region of the shadow table (R11). -/
def setShadowDefault (s : State) (r : RegionSettings) : State :=
  { s with regions := { s.regions with shadow := { s.regions.shadow with defaultRegion := r } } }

/-- WRITE_REGION (R11, R192). -/
def takeWriteRegion (s : State) (args : List Byte) : State :=
  let index := (args.getD 0 0).toNat
  if h : index < 16 then
    match decodeEntry (args.drop 1) with
    | none => s.answerFrame (some .writeRegion) .badValue []
    | some e => (s.setShadowEntry ⟨index, h⟩ e).answerFrame (some .writeRegion) .ok []
  else if index = 16 then
    match decodeSettings (args.drop 1) with
    | none => s.answerFrame (some .writeRegion) .badValue []
    | some r => (s.setShadowDefault r).answerFrame (some .writeRegion) .ok []
  else s.answerFrame (some .writeRegion) .badIndex []

/-- COPY_ACTIVE (R13). -/
def takeCopyActive (s : State) : State :=
  { s with regions := { s.regions with shadow := s.regions.active } }.answerFrame (some .copyActive) .ok []

/-- A successful COMMIT: the shadow table is installed, every OPEN entry is sealed and every pace record cleared, at
one event (R17, R18). -/
def install (s : State) : State :=
  { s with
    regions := { s.regions with active := s.regions.shadow }
    posting := closeWhere (fun _ => true) s.posting
    pacing := s.pacing.clearRecords }.judge

/-- COMMIT (R14 to R18, R193). -/
def takeCommit (s : State) : State :=
  match s.regions.shadow.failingIndex with
  | some k => s.answerFrame (some .commit) .invalidEntry [BitVec.ofNat 8 k.val]
  | none => (s.answerFrame (some .commit) .ok []).install

/-- READ_PROFILE (R194). -/
def takeReadProfile (s : State) (args : List Byte) : State :=
  match profileOfByte (args.getD 0 0) with
  | none => s.answerFrame (some .readProfile) .badIndex []
  | some k => s.answerFrame (some .readProfile) .ok (s.pacing.profiles.get k).encode

/-- Replace a profile; the kept expiries that use it are computed anew and the Issue Arbiter decides (R92, R95;
log entry 19). -/
def setProfile (s : State) (k : ProfileIndex) (p : PacingProfile) : State :=
  { s with pacing := { s.pacing with profiles := vset s.pacing.profiles k p } }.judge

/-- WRITE_PROFILE (R194). -/
def takeWriteProfile (s : State) (args : List Byte) : State :=
  match profileOfByte (args.getD 0 0) with
  | none => s.answerFrame (some .writeProfile) .badIndex []
  | some k =>
    match decodeProfile (args.getD 1 0) (args.getD 2 0) (args.getD 3 0) with
    | none => s.answerFrame (some .writeProfile) .badValue []
    | some p => (s.answerFrame (some .writeProfile) .ok []).setProfile k p

/-- READ_LIMIT (R197). -/
def takeReadLimit (s : State) (args : List Byte) : State :=
  match LimitName.ofCode (args.getD 0 0) with
  | none => s.answerFrame (some .readLimit) .badIndex []
  | some n => s.answerFrame (some .readLimit) .ok (bigEndian 2 (s.mgmt.limits.get n))

/-- Replace a limit. The change is no event at any block (R197). -/
def setLimit (s : State) (n : LimitName) (v : Nat) : State :=
  { s with mgmt := { s.mgmt with limits := s.mgmt.limits.set n v } }

/-- WRITE_LIMIT (R197). -/
def takeWriteLimit (s : State) (args : List Byte) : State :=
  match LimitName.ofCode (args.getD 0 0) with
  | none => s.answerFrame (some .writeLimit) .badIndex []
  | some n =>
    let v := ofBigEndian (args.drop 1)
    if n.inRange v then (s.setLimit n v).answerFrame (some .writeLimit) .ok []
    else s.answerFrame (some .writeLimit) .badValue []

/-- POP_FAULT: the readout of the head record; its removal is at the end of the frame (R181, R195). -/
def takePopFault (s : State) : State :=
  match s.faults.records with
  | [] => s.answerFrame (some .popFault) .empty []
  | r :: _ => s.answerFrame (some .popFault) .ok r.encode

/-- ABANDON (R89, R196). -/
def takeAbandon (s : State) : State :=
  if s.isStalled then (s.answerFrame (some .abandon) .ok []).abandonStall
  else s.answerFrame (some .abandon) .refused []

/-- SOFT_RESET (R198). -/
def takeSoftReset (s : State) : State := (s.answerFrame (some .softReset) .ok []).softReset

/-- The taking of a command with its argument bytes (R187). -/
def takeCommand (s : State) (c : Command) (args : List Byte) : State :=
  match c with
  | .status => s.takeStatus
  | .readRegion => s.takeReadRegion args
  | .writeRegion => s.takeWriteRegion args
  | .copyActive => s.takeCopyActive
  | .commit => s.takeCommit
  | .readProfile => s.takeReadProfile args
  | .writeProfile => s.takeWriteProfile args
  | .readLimit => s.takeReadLimit args
  | .writeLimit => s.takeWriteLimit args
  | .popFault => s.takePopFault
  | .abandon => s.takeAbandon
  | .softReset => s.takeSoftReset

/-- A byte received in COMMAND names the command (R186). -/
def nameCommand (s : State) (b : Byte) : State :=
  match Command.ofCode b with
  | none => s.answerFrame none .badCommand []
  | some c => if c.argumentBytes = 0 then s.takeCommand c [] else s.setPhase (.arguments c [])

/-- A byte received in ARGUMENTS; the last one completes the command (R186). -/
def addArgument (s : State) (c : Command) (received : List Byte) (b : Byte) : State :=
  if received.length + 1 < c.argumentBytes then s.setPhase (.arguments c (received ++ [b]))
  else s.takeCommand c (received ++ [b])

/-- One byte position is clocked: what is received on MOSI and what is driven on MISO, by the phase (R186, 12.4). While
CS_N is high there is no frame and no byte. -/
def clockByte (s : State) (mosi : Byte) : State :=
  if !s.pins.csLow then s
  else
    match s.mgmt.phase with
    | .idle | .ignore => s.drive Config.fill
    | .command => (s.drive Config.fill).nameCommand mosi
    | .arguments c received => (s.drive Config.fill).addArgument c received mosi
    | .response c bytes sent =>
      (s.drive (bytes.getD sent Config.fill)).setPhase
        (if sent + 1 < bytes.length then .response c bytes (sent + 1) else .trailing c bytes)
    | .trailing _ _ => s.drive Config.fill

/-- CS_N falls: a frame starts (R186). While RESET_N is low the port stays IDLE (R189). -/
def startFrame (s : State) : State :=
  if s.pins.csLow then s
  else
    { s with
      pins := { s.pins with csLow := true }
      mgmt :=
        { s.mgmt with
          phase := if s.pins.resetLow then s.mgmt.phase else
            match s.mgmt.phase with
            | .idle => .command
            | p => p } }

/-- Whether the frame that ends now is a POP_FAULT completed in full whose result is OK (R181, R195). -/
def popsFault (s : State) : Bool :=
  match s.mgmt.phase with
  | .trailing (some .popFault) bytes => bytes.head? == some ResultCode.ok.byte
  | _ => false

/-- CS_N rises: the port returns to IDLE, and a POP_FAULT completed in full removes the record it read out (R181, R186,
R188). -/
def endFrame (s : State) : State :=
  if !s.pins.csLow then s
  else
    { s with
      pins := { s.pins with csLow := false }
      mgmt := { s.mgmt with phase := .idle }
      faults := if s.popsFault then s.faults.removeHead else s.faults }

end State

/-- FRAME_START (R186). -/
def execFrameStart (s : State) : Host.Outcome State Fault Refusal := .next s.startFrame

/-- FRAME_END (R188). -/
def execFrameEnd (s : State) : Host.Outcome State Fault Refusal := .next s.endFrame

/-- BAD_COMMAND: the receipt of an undefined command byte (R187). -/
def execBadCommand (byte : Byte) (s : State) : Host.Outcome State Fault Refusal := .next (s.clockByte byte)

/-- STATUS: the receipt of command byte 01h (R191). -/
def execStatus (s : State) : Host.Outcome State Fault Refusal := .next (s.clockByte 0x01)

/-- READ_REGION: the receipt of its last argument byte (R12). -/
def execReadRegion (last : Byte) (s : State) : Host.Outcome State Fault Refusal := .next (s.clockByte last)

/-- WRITE_REGION: the receipt of its last argument byte (R11). -/
def execWriteRegion (last : Byte) (s : State) : Host.Outcome State Fault Refusal := .next (s.clockByte last)

/-- COPY_ACTIVE: the receipt of command byte 12h (R13). -/
def execCopyActive (s : State) : Host.Outcome State Fault Refusal := .next (s.clockByte 0x12)

/-- COMMIT: the receipt of command byte 13h (R14). -/
def execCommit (s : State) : Host.Outcome State Fault Refusal := .next (s.clockByte 0x13)

/-- READ_PROFILE: the receipt of its last argument byte (R194). -/
def execReadProfile (last : Byte) (s : State) : Host.Outcome State Fault Refusal := .next (s.clockByte last)

/-- WRITE_PROFILE: the receipt of its last argument byte (R194). -/
def execWriteProfile (last : Byte) (s : State) : Host.Outcome State Fault Refusal := .next (s.clockByte last)

/-- READ_LIMIT: the receipt of its last argument byte (R197). -/
def execReadLimit (last : Byte) (s : State) : Host.Outcome State Fault Refusal := .next (s.clockByte last)

/-- WRITE_LIMIT: the receipt of its last argument byte (R197). -/
def execWriteLimit (last : Byte) (s : State) : Host.Outcome State Fault Refusal := .next (s.clockByte last)

/-- POP_FAULT: the receipt of command byte 40h (R181). -/
def execPopFault (s : State) : Host.Outcome State Fault Refusal := .next (s.clockByte 0x40)

/-- ABANDON: the receipt of command byte 50h (R89). -/
def execAbandon (s : State) : Host.Outcome State Fault Refusal := .next (s.clockByte 0x50)

/-- SOFT_RESET: the receipt of command byte 5Ah (R198). -/
def execSoftReset (s : State) : Host.Outcome State Fault Refusal := .next (s.clockByte 0x5A)

/-- BYTE_RECEIVED: a byte that names a command with arguments, or adds to the arguments (R186). -/
def execByteReceived (byte : Byte) (s : State) : Host.Outcome State Fault Refusal := .next (s.clockByte byte)

/-- BYTE_POSITION_CLOCKED: a byte position in RESPONSE or TRAILING (R186). -/
def execBytePositionClocked (mosi : Byte) (s : State) : Host.Outcome State Fault Refusal := .next (s.clockByte mosi)

end Sys2Proof.Machine
end

