-- ==== Sys2Proof/Machine/Dispatch.lean ====
section
/-! DEFINITION. One arm for each constructor of Instr: the meaning of each command. Before the first power-on reset the
part takes every command as it does after one (the model's choice: log entry 21). -/

namespace Sys2Proof.Machine

open Sys2Proof

def exec (i : Instr) (s : State) : Host.Outcome State Fault Refusal :=
  match i with
  | .read initiator tag address size hint => Sys2Proof.Machine.execRead initiator tag address size hint s
  | .write initiator tag address size hint data => Sys2Proof.Machine.execWrite initiator tag address size hint data s
  | .lockedRead initiator tag address size => Sys2Proof.Machine.execLockedRead initiator tag address size s
  | .lockedWrite initiator tag address size data => Sys2Proof.Machine.execLockedWrite initiator tag address size data s
  | .lockDrop initiator tag => Sys2Proof.Machine.execLockDrop initiator tag s
  | .fence initiator tag => Sys2Proof.Machine.execFence initiator tag s
  | .discard initiator tag => Sys2Proof.Machine.execDiscard initiator tag s
  | .malformedRequest header data => Sys2Proof.Machine.execMalformedRequest header data s
  | .frameDiscardedInReset header data => Sys2Proof.Machine.execFrameDiscardedInReset header data s
  | .linkReset => Sys2Proof.Machine.execLinkReset s
  | .linkUp => Sys2Proof.Machine.execLinkUp s
  | .powerOnReset => Sys2Proof.Machine.execPowerOnReset s
  | .powerOnResetEnd mcV => Sys2Proof.Machine.execPowerOnResetEnd mcV s
  | .completion head data => Sys2Proof.Machine.execCompletion head data s
  | .memoryTimerExpiry => Sys2Proof.Machine.execMemoryTimerExpiry s
  | .mergeTimerExpiry entry => Sys2Proof.Machine.execMergeTimerExpiry entry s
  | .drainTimerExpiry entry => Sys2Proof.Machine.execDrainTimerExpiry entry s
  | .pacingExpiry region => Sys2Proof.Machine.execPacingExpiry region s
  | .retentionTimerExpiry place => Sys2Proof.Machine.execRetentionTimerExpiry place s
  | .lockTimerExpiry slot => Sys2Proof.Machine.execLockTimerExpiry slot s
  | .reservationTimerExpiry => Sys2Proof.Machine.execReservationTimerExpiry s
  | .frameStart => Sys2Proof.Machine.execFrameStart s
  | .frameEnd => Sys2Proof.Machine.execFrameEnd s
  | .badCommand byte => Sys2Proof.Machine.execBadCommand byte s
  | .status => Sys2Proof.Machine.execStatus s
  | .readRegion last => Sys2Proof.Machine.execReadRegion last s
  | .writeRegion last => Sys2Proof.Machine.execWriteRegion last s
  | .copyActive => Sys2Proof.Machine.execCopyActive s
  | .commit => Sys2Proof.Machine.execCommit s
  | .readProfile last => Sys2Proof.Machine.execReadProfile last s
  | .writeProfile last => Sys2Proof.Machine.execWriteProfile last s
  | .readLimit last => Sys2Proof.Machine.execReadLimit last s
  | .writeLimit last => Sys2Proof.Machine.execWriteLimit last s
  | .popFault => Sys2Proof.Machine.execPopFault s
  | .abandon => Sys2Proof.Machine.execAbandon s
  | .softReset => Sys2Proof.Machine.execSoftReset s
  | .byteReceived byte => Sys2Proof.Machine.execByteReceived byte s
  | .bytePositionClocked mosi => Sys2Proof.Machine.execBytePositionClocked mosi s
  | .mcVFalling => Sys2Proof.Machine.execMcVFalling s

end Sys2Proof.Machine
end

