-- ==== Sys2Proof/Safety.lean ====
section
/-! DEFINITION. The laws the spec says the blocks keep, as predicates of a state: the Fault Queue (R177, R179, R183), the
Favoured List (R146, R148, R150), the Lock Unit (R123, R124, R129), the Posting Queue and the Wait List with the
outstanding tags (R23, R24, R53, R55, R165, R166), and the Capture Table (R100). -/

namespace Sys2Proof.Machine

open Sys2Proof

/-- At most 8 records are held (R177), they carry consecutive numbers up to the next one (R179), and FAULT_N is low
exactly while one is held (R183). -/
structure FaultQueue.Sound (q : FaultQueue) : Prop where
  atMost : q.records.length ≤ 8
  numbered : ∀ n (h : n < q.records.length),
    q.records[n].seq = q.next - BitVec.ofNat 16 (q.records.length - n)
  output : q.faultN = if q.records = [] then .high else .low

/-- The Favoured List holds nobody twice (R146); the reservation timer runs exactly while the list has a head (R150); a
wanted resource is present only while it does (7.1). -/
structure ProgressMonitor.Sound (p : ProgressMonitor) : Prop where
  nodup : p.favoured.Nodup
  timer : p.reservation.isSome ↔ p.favoured ≠ []
  wanted : p.favoured = [] → p.wanted = .none

/-- No initiator owns more than one slot, no line is covered by more than one (R123), and no initiator owns a slot and
holds a marker at the same time (R124). -/
structure LockUnit.Sound (u : LockUnit) : Prop where
  owners : ∀ j k o, (u.slots.get j).owner = some o → (u.slots.get k).owner = some o → j = k
  lines : ∀ j k l, (u.slots.get j).line = some l → (u.slots.get k).line = some l → j = k
  markers : ∀ k i, (u.slots.get k).owner = some i → u.markers.get i = none

/-- The Posting Queue: at most 16 entries in sequence order, at most one OPEN for a line (R23, R24); the merge timer runs
exactly while the entry is OPEN, and only a MERGE entry is (R25, R31); the contributors are 1 to 8 initiators (2.1). -/
structure PostingSound (q : List PostingEntry) (nextSeq : Nat) : Prop where
  atMost : q.length ≤ 16
  ordered : q.Pairwise fun e f => e.seq < f.seq
  numbered : ∀ e ∈ q, e.seq < nextSeq
  oneOpen : q.Pairwise fun e f => e.isOpen = true → f.isOpen = true → e.line ≠ f.line
  openTimer : ∀ e ∈ q, e.isOpen = e.mergeExpiry.isSome
  openMerge : ∀ e ∈ q, e.isOpen = true → e.cls = .merge
  contributors : ∀ e ∈ q, e.contributors ≠ [] ∧ e.contributors.Nodup

/-- The Wait List in sequence order (R24, R53), a FENCE never ISSUED (R55), and for each initiator the tags of its
requests, without repeat and at most 4, as its outstanding tag set (R165, R166). -/
structure WaitingSound (l : List WaitEntry) (outTags : Vector (List Tag) 8) (nextSeq : Nat) : Prop where
  ordered : l.Pairwise fun v w => v.seq < w.seq
  numbered : ∀ w ∈ l, w.seq < nextSeq
  fences : ∀ w ∈ l, w.isFence = true → w.state = .waiting
  tags : ∀ i, outTags.get i = (l.filter fun w => w.initiator == i).map (·.tag)
  nodup : ∀ i, (outTags.get i).Nodup
  atMost : ∀ i, (outTags.get i).length ≤ 4

namespace State

/-- The access the Memory Port is BUSY with belongs to this requester. -/
def busyWith (s : State) (q : Requester) : Prop := ∃ aw expiry, s.port.state = .busy aw expiry ∧ aw.requester = q

/-- The two queues are sound, and what is ISSUED is what the Memory Port is BUSY with: the head of the Posting Queue
(R25), or one Wait List request (R55, R81). -/
structure QueuesSound (s : State) : Prop where
  posting : PostingSound s.posting s.fabric.nextSeq
  waiting : WaitingSound s.waiting s.fabric.outTags s.fabric.nextSeq
  head : (∃ e rest, s.posting = e :: rest ∧ e.state = .issued) ↔ s.busyWith .head
  behind : ∀ e ∈ s.posting.tail, e.state ≠ .issued
  request : ∀ w ∈ s.waiting, w.state = .issued ↔ s.busyWith (.request w.seq)
  awaited : ∀ seq, s.busyWith (.request seq) → ∃ w ∈ s.waiting, w.seq = seq

/-- A capture the table holds. -/
def holdsCapture (s : State) (k : Fin 8) (c : Capture) : Prop := (s.captures.get k).capture = some c

/-- No (initiator, tag) pair is recorded in more than one entry, and no initiator has more than one SPLIT entry for a
word (R100); a tag that is outstanding is recorded in none, and the place an issued split read claims is the only one that
may hold its initiator's SPLIT capture for its word. -/
structure CapturesSound (s : State) : Prop where
  tags : ∀ j k c d i t, s.holdsCapture j c → s.holdsCapture k d → c.recordsTag i t = true →
    d.recordsTag i t = true → j = k
  splits : ∀ j k c d i word, s.holdsCapture j c → s.holdsCapture k d → c.splitFor i word = true →
    d.splitFor i word = true → j = k
  outstanding : ∀ k c, s.holdsCapture k c → ∀ w ∈ s.waiting, c.recordsTag w.initiator w.tag = false
  claims : ∀ w ∈ s.waiting, ∀ a, w.work = .access a → w.state = .issued → a.claimed = true → a.isSplitRead = true →
    ∀ k c, s.holdsCapture k c → c.splitFor w.initiator (wordOf a.address) = true →
      (s.captures.get k).claimedBy w.seq = true
  claimed : ∀ j k n, (s.captures.get j).claim = some n → (s.captures.get k).claim = some n → j = k
  claimant : ∀ k n, (s.captures.get k).claim = some n →
    s.busyWith (.request n) ∧ ∃ w ∈ s.waiting, ∃ a, w.seq = n ∧ w.work = .access a ∧ a.claimed = true

/-- Every Wait List request to a line is the owner's. -/
def onlyOwnerWaits (s : State) (owner : Initiator) (line : Addr) : Prop :=
  ∀ w ∈ s.waiting, w.isTo line = true → w.initiator = owner

/-- No posted data for a line is held. -/
def nothingPosted (s : State) (line : Addr) : Prop := ∀ e ∈ s.posting, e.line ≠ line

/-- What holds of a slot, so that a locked line is reached for its owner alone from the issue of the locked read until
the lock ends (R129). A PENDING slot's request is in the Wait List, younger than every request of another initiator to the
line and than every entry for it, and once it is ISSUED none of these remains. -/
def slotSound (s : State) : LockSlot → Prop
  | .free => True
  | .pending owner line request =>
    (∃ w ∈ s.waiting, ∃ a, w.seq = request ∧ w.initiator = owner ∧ w.work = .access a ∧ a.kind = .lockedRead ∧
      lineOf a.address = line ∧
      (∀ e ∈ s.posting, e.line = line → e.seq < request ∧ (a.cls ≠ .device → e.seq ∈ a.waitsFor)) ∧
      (w.state = .issued → s.nothingPosted line ∧ s.onlyOwnerWaits owner line)) ∧
    ∀ v ∈ s.waiting, v.isTo line = true → v.initiator = owner ∨ v.seq < request
  | .held owner line _ => s.nothingPosted line ∧ s.onlyOwnerWaits owner line
  | .closing owner line request =>
    (∃ w ∈ s.waiting, ∃ a, w.seq = request ∧ w.initiator = owner ∧ w.work = .access a ∧ a.kind = .lockedWrite) ∧
      s.nothingPosted line ∧ s.onlyOwnerWaits owner line

/-- Every slot is as slotSound says (R129). -/
def LocksExclusive (s : State) : Prop := ∀ k, s.slotSound (s.locks.slots.get k)

end State

/-! ### Words the statements use -/

/-- The command that is the arrival of a request. -/
def Request.command (r : Request) : Instr :=
  match r.kind with
  | .read a size hint => .read r.initiator r.tag a size hint
  | .write a size hint data => .write r.initiator r.tag a size hint data
  | .lockedRead a size => .lockedRead r.initiator r.tag a size
  | .lockedWrite a size data => .lockedWrite r.initiator r.tag a size data
  | .lockDrop => .lockDrop r.initiator r.tag
  | .fence => .fence r.initiator r.tag
  | .discard => .discard r.initiator r.tag

/-- The address of a request that carries one, with the hint it is classified by; a locked request has no hint (R5). -/
def RequestKind.target : RequestKind → Option (Addr × Hint)
  | .read a _ hint => some (a, hint)
  | .write a _ hint _ => some (a, hint)
  | .lockedRead a _ => some (a, .none)
  | .lockedWrite a _ _ => some (a, .none)
  | .lockDrop | .fence | .discard => none

/-- A request that is posted in class c: a WRITE of class MERGE or POSTED (R8). -/
def RequestKind.posts (k : RequestKind) (c : AccessClass) : Bool :=
  match k with
  | .write .. => c == .merge || c == .posted
  | .read .. | .lockedRead .. | .lockedWrite .. | .lockDrop | .fence | .discard => false

/-- The byte a command of the Management Port receives on MOSI; none where the command is no byte of a frame. -/
def mosiByte : Instr → Option Byte
  | .badCommand b | .readRegion b | .writeRegion b | .readProfile b | .writeProfile b => some b
  | .readLimit b | .writeLimit b | .byteReceived b | .bytePositionClocked b => some b
  | .status => some 0x01
  | .copyActive => some 0x12
  | .commit => some 0x13
  | .popFault => some 0x40
  | .abandon => some 0x50
  | .softReset => some 0x5A
  | .read .. | .write .. | .lockedRead .. | .lockedWrite .. | .lockDrop .. | .fence .. | .discard .. => none
  | .malformedRequest .. | .frameDiscardedInReset .. | .linkReset | .linkUp | .powerOnReset => none
  | .powerOnResetEnd _ | .completion .. | .memoryTimerExpiry | .mergeTimerExpiry _ | .drainTimerExpiry _ => none
  | .pacingExpiry _ | .retentionTimerExpiry _ | .lockTimerExpiry _ | .reservationTimerExpiry => none
  | .frameStart | .frameEnd | .mcVFalling => none

/-- A response with a status and nothing else (R161). -/
def bareResponse (i : Initiator) (t : Tag) (status : Status) : Response :=
  { initiator := i, tag := t, status := status, reason := none, source := none, data := [] }

/-- The lookup removes this capture when it does not answer the request: it records the request's tag, or it is the
latch in state BOTH that a 4-byte READ of its word meets (R106, R108, R112). -/
def Request.forgets (r : Request) (c : Capture) : Bool :=
  c.recordsTag r.initiator r.tag ||
    match r.kind with
    | .read a size _ => size == .b4 && c.splitFor r.initiator (wordOf a)
    | .write .. | .lockedRead .. | .lockedWrite .. | .lockDrop | .fence | .discard => false

namespace State

/-- A well-formed request with a tag that is not outstanding arrives while the link is UP (R164, steps 1 and 2). -/
structure Receives (s : State) (r : Request) : Prop where
  up : s.fabric.link = .up
  wellFormed : r.kind.wellFormed = true
  fresh : r.tag ∉ s.fabric.outTags.get r.initiator

/-- No capture answers the request: none records it as a READ, and a latch a 4-byte READ meets is in state BOTH (R106). -/
def Unanswered (s : State) (r : Request) : Prop :=
  ∀ k c, s.holdsCapture k c →
    match r.kind with
    | .read a size _ =>
      c.recordsRead r.initiator r.tag a size = false ∧
        (size = .b4 → c.splitFor r.initiator (wordOf a) = true → c.key.isBoth = true)
    | .write .. | .lockedRead .. | .lockedWrite .. | .lockDrop | .fence | .discard => True

/-- The state after a lookup that answers nothing: the captures it removes are gone (R106, step 3). -/
def lookedUp (s : State) (r : Request) : State := s.dropCaptures r.forgets

/-- What follows where an arrival's effects, s to u, are no event of R72 but for the places they free: where they free
one the Issue Arbiter decides (R119). -/
def settled (s u : State) : State := if u.placesInUse < s.placesInUse then u.judge else u

/-- Another initiator's lock covers the line (R125). -/
def ShutOut (s : State) (i : Initiator) (line : Addr) : Prop :=
  ∃ k, (s.locks.slots.get k).line = some line ∧ (s.locks.slots.get k).owner ≠ some i

/-- The initiator's own lock covers the line (R126). -/
def OwnsLine (s : State) (i : Initiator) (line : Addr) : Prop :=
  ∃ k, (s.locks.slots.get k).line = some line ∧ (s.locks.slots.get k).owner = some i

/-- The initiator owns no slot. -/
def OwnsNone (s : State) (i : Initiator) : Prop := ∀ k, (s.locks.slots.get k).owner ≠ some i

/-- The head of the Favoured List is another initiator and wants this resource (R151). -/
def ReservedFrom (s : State) (i : Initiator) (w : Wanted) : Prop :=
  ∃ h rest, s.progress.favoured = h :: rest ∧ h ≠ i ∧ s.progress.wanted = w

/-- The youngest entry for a line, which answers a READ of these bytes where no write to the line is waiting (R35). -/
def QueueAnswers (s : State) (a : Addr) (size : Size) (e : PostingEntry) : Prop :=
  (s.posting.filter fun e => e.line == lineOf a).getLast? = some e ∧ covers e.mask (byteMask a size) = true ∧
    ∀ w ∈ s.waiting, w.isWriteTo (lineOf a) = false

/-- The Wait List entry of a request that makes an access, at its taking (R36, R54). -/
def waitEntry (s : State) (r : Request) (kind : AccessKind) (c : Classification) (a : Addr) (size : Size)
    (data : List Byte) (waitsFor : List Nat) : WaitEntry :=
  { seq := s.fabric.nextSeq, initiator := r.initiator, tag := r.tag, state := .waiting,
    work := .access { kind := kind, address := a, size := size, cls := c.cls, region := c.region, profile := c.profile,
                      captureMode := c.captureMode, data := data, waitsFor := waitsFor, claimed := false } }

/-- The Fabric Port after the taking of a request into the Wait List: its tag is outstanding and its sequence number is
given out (R24, R165). -/
def tagTaken (s : State) (r : Request) : FabricPort :=
  { s.fabric with
    outTags := vset s.fabric.outTags r.initiator (s.fabric.outTags.get r.initiator ++ [r.tag])
    nextSeq := s.fabric.nextSeq + 1 }

/-- A byte of a command is to be received: CS_N is low and the port is in COMMAND (R186). -/
def AtCommand (s : State) : Prop := s.pins.csLow = true ∧ s.mgmt.phase = .command

/-- The last argument byte of a command is to be received, these having been (R186). -/
def AtLastArgument (s : State) (c : Command) (args : List Byte) : Prop :=
  s.pins.csLow = true ∧ s.mgmt.phase = .arguments c args ∧ args.length + 1 = c.argumentBytes

/-- What has been driven on MISO once b has been, at a byte position of a frame; before the first power-on reset MISO is
high impedance and carries nothing (R201). -/
def misoWith (s : State) (b : Byte) : List Byte := if s.pins.hadReset = true then s.mgmt.miso ++ [b] else s.mgmt.miso

/-- The Management Port after a command is taken: fill has been driven for the byte received, and the response stands
ready in RESPONSE (R186, R187, 12.4). -/
def replying (s : State) (c : Option Command) (result : Byte) (bytes : List Byte) : ManagementPort :=
  { s.mgmt with miso := s.misoWith 0xFF, phase := .response c (result :: bytes) 0 }

/-- Completion frames are taken: RESET_N is high and no frame is being discarded (R98). -/
def TakesCompletions (s : State) : Prop := s.pins.resetLow = false ∧ s.pins.mcDiscard = false

/-- The tick e can be reached now: REFCLK runs, and no timer expires before it (R200). -/
def CanReach (s : State) (e : Nat) : Prop :=
  s.pins.refclkRunning = true ∧ (e ≤ s.tick ∨ ∀ p ∈ s.timers, e ≤ p.1)

/-- The state at tick e, where it is reached: time has passed up to it (R200). -/
def atTick (s : State) (e : Nat) : State := s.elapse (e - s.tick)

end State

end Sys2Proof.Machine
end

