-- ==== Sys2Proof/Certificates/Slice0/Obligations.lean ====
section
/-! DEFINITION. The statements for the provers: what each command does, by the numbered rules of the spec, and the laws
every step keeps. A statement of the form exec c s = next t gives the whole next state, so what it does not name is
unchanged. -/

open Sys2Proof Sys2Proof.Machine

/-! ### The machine -/

/-- A step takes the command at the front of the queue and runs it on the state with the queue's rest. -/
def Obligations.StepRunsTheFrontCommand : Prop :=
  ∀ (c : Instr) (rest : List Instr) (s : State), s.pending = c :: rest → step s = exec c { s with pending := rest }

/-- On an empty queue nothing happens while RESET_N is low or REFCLK is stopped; a due expiry becomes the next
command; else one tick passes (the model's choice: log entries 1, 3, 6). No timer expires while REFCLK is stopped, and
a timer that does not run does not expire: such an expiry command changes nothing (log entry 2). -/
def Obligations.TimersAndTicksPassOnTheClock : Prop :=
  (∀ s : State, s.pending = [] →
     (s.pins.resetLow = true ∨ s.pins.refclkRunning = false → step s = .next s) ∧
     (s.pins.resetLow = false → s.pins.refclkRunning = true →
       ((∀ p ∈ s.timers, s.tick < p.1) →
         step s = .next { s with tick := s.tick + 1, port := { s.port with mqOut := s.port.mqOut.drop 1 } }) ∧
       ((∃ p ∈ s.timers, p.1 ≤ s.tick) →
         ∃ p ∈ s.timers, ∃ n, p.1 ≤ s.tick ∧ step s = .next { s with pending := [p.2], freeCount := n }))) ∧
  (∀ (s : State) (c : Instr),
     (c = .memoryTimerExpiry ∧ (s.pins.refclkRunning = false ∨ ∀ aw e, s.port.state ≠ .busy aw e)) ∨
     (∃ n, c = .mergeTimerExpiry n ∧
       (s.pins.refclkRunning = false ∨ ∀ e ∈ s.posting, e.seq = n → e.mergeExpiry = none)) ∨
     (∃ n, c = .drainTimerExpiry n ∧
       (s.pins.refclkRunning = false ∨ ∀ e ∈ s.posting, e.seq = n → e.drainExpiry = none)) ∨
     (∃ r, c = .pacingExpiry r ∧ (s.pins.refclkRunning = false ∨ ∀ k ∈ s.pacing.kept, k.region ≠ r)) ∨
     (∃ k, c = .retentionTimerExpiry k ∧
       (s.pins.refclkRunning = false ∨ (s.captures.get k).capture = none)) ∨
     (∃ k, c = .lockTimerExpiry k ∧
       (s.pins.refclkRunning = false ∨ ∀ o line e, s.locks.slots.get k ≠ .held o line e)) ∨
     (c = .reservationTimerExpiry ∧ (s.pins.refclkRunning = false ∨ s.progress.reservation = none)) →
       exec c s = .next s)

/-- Every command has a next state, and leaves the queue of waiting commands as it is. These are choices of the model:
that a command can be given in every state, an expiry whose time cannot come and an event the pins or the link state
rule out then changing nothing (log entries 2, 16), and that there is such a queue (log entry 8). -/
def Obligations.EveryCommandHasANextState : Prop :=
  ∀ (c : Instr) (s : State), ∃ t, exec c s = .next t ∧ t.pending = s.pending

/-- The values the spec states for power-on reset stand at State.reset. -/
def Obligations.ResetLeavesPowerOnValues : Prop :=
  let s := State.reset
  let e : RegionSettings := { cls := .posted, profile := 0, captureMode := .none, locking := .allowed }
  (∀ k, s.regions.active.entries.get k = { valid := false, base := 0, limit := 0, settings := e }) ∧
  s.regions.active.defaultRegion = { e with cls := .device } ∧ s.regions.shadow = s.regions.active ∧
  s.posting = [] ∧ s.waiting = [] ∧ s.fabric.link = .inReset ∧ s.fabric.nextSeq = 0 ∧
  (∀ i, s.fabric.outTags.get i = []) ∧ s.port.state = .ready ∧ s.port.counter = 0 ∧
  (∀ p, s.pacing.profiles.get p = { readGap := 64, writeGap := 64, turnaround := 0 }) ∧
  (∀ r, s.pacing.records.get r = { last := none, time := 0 }) ∧ s.pacing.kept = [] ∧
  (∀ k, s.captures.get k = { capture := none, claim := none }) ∧
  (∀ k, s.locks.slots.get k = .free) ∧ (∀ i, s.locks.markers.get i = none) ∧
  (∀ i, s.progress.counts.get i = 0) ∧ s.progress.favoured = [] ∧ s.progress.reservation = none ∧
  s.faults.records = [] ∧ s.faults.next = 0 ∧ s.faults.faultN = .high ∧
  s.mgmt.phase = .idle ∧
  s.mgmt.limits =
    { retryThreshold := 6, lockTimeout := 2000, captureRetention := 4096, memoryTimeout := 10000, mergeAge := 32,
      drainAge := 512, highWater := 12, reservationTimeout := 1000 } ∧
  s.tick = 0 ∧ s.timers = []

/-- POWER_ON_RESET puts every block at its power-on values, drives FAULT_N high and MQ_V low; POWER_ON_RESET_END,
while RESET_N is low, makes tick 0 and puts the Management Port into IGNORE where CS_N is low. What has been sent
stays sent, and an end while RESET_N is high changes nothing (log entries 5, 16). While REFCLK is stopped no tick
samples RESET_N, and both change nothing. A completion frame is ignored while RESET_N is low, and while one that was
in progress at the end of a power-on reset is being discarded; the falling of MC_V ends the discarding. -/
def Obligations.PowerOnResetBeginsAndEnds : Prop :=
  (∀ s : State,
     (s.pins.refclkRunning = true → exec .powerOnReset s =
       .next
         { State.reset with
           pending := s.pending
           pins := { s.pins with resetLow := true, hadReset := true, mcDiscard := false }
           fabric := { State.reset.fabric with responses := s.fabric.responses }
           port := { State.reset.port with accesses := s.port.accesses }
           mgmt := { State.reset.mgmt with miso := s.mgmt.miso }
           freeCount := s.freeCount }) ∧
     (∀ t, s.pins.refclkRunning = true → exec .powerOnReset s = .next t →
       t.faultNPin = .high ∧ t.mqVPin = .low) ∧
     (s.pins.refclkRunning = false → exec .powerOnReset s = .next s) ∧
     ∀ mcV : Bool,
       (s.pins.refclkRunning = true → s.pins.resetLow = true →
         exec (.powerOnResetEnd mcV) s =
           .next
             { s with
               tick := 0
               pins := { s.pins with resetLow := false, mcDiscard := mcV }
               mgmt := { s.mgmt with phase := if s.pins.csLow = true then .ignore else .idle } }) ∧
       (s.pins.refclkRunning = false ∨ s.pins.resetLow = false → exec (.powerOnResetEnd mcV) s = .next s)) ∧
  (∀ s : State,
     (∀ (head : Byte) (data : List Byte),
       s.pins.resetLow = true ∨ s.pins.mcDiscard = true → exec (.completion head data) s = .next s) ∧
     exec .mcVFalling s = .next { s with pins := { s.pins with mcDiscard := false } })

/-! ### Region Classifier -/

/-- Resolution and classification: the strongest class among the valid matching entries wins, and its lowest index
supplies the settings; the default region applies where none matches; a hint strengthens the class of a READ or WRITE,
and the capture mode is NONE where it raises the class to DEVICE. -/
def Obligations.ClassificationFollowsTheTable : Prop :=
  ∀ (t : RegionTable) (a : Addr),
    let m : Fin 16 → Prop := fun k =>
      (t.entries.get k).valid = true ∧ (t.entries.get k).base.toNat ≤ a.toNat / 4096 ∧
        a.toNat / 4096 ≤ (t.entries.get k).limit.toNat
    let rank : AccessClass → Nat := fun c => [AccessClass.merge, .posted, .device, .blocked].idxOf c
    ((∀ k, ¬ m k) → t.resolve a = (t.defaultRegion, 16)) ∧
    (∀ k, m k → (∀ j, m j → rank (t.entries.get j).settings.cls ≤ rank (t.entries.get k).settings.cls) →
      (∀ j, m j → j < k → rank (t.entries.get j).settings.cls < rank (t.entries.get k).settings.cls) →
      t.resolve a = ((t.entries.get k).settings, k.castSucc)) ∧
    ∀ hint : Hint,
      let named : Option AccessClass :=
        match hint with
        | .none => none
        | .posted => some .posted
        | .device => some .device
      (t.classify a hint).cls =
        (match named with
         | none => (t.resolve a).1.cls
         | some c => if rank (t.resolve a).1.cls ≤ rank c then c else (t.resolve a).1.cls) ∧
      (t.classify a hint).region = (t.resolve a).2 ∧ (t.classify a hint).profile = (t.resolve a).1.profile ∧
      (t.classify a hint).locking = (t.resolve a).1.locking ∧
      (t.classify a hint).captureMode =
        if (t.classify a hint).cls = .device ∧ (t.resolve a).1.cls ≠ .device then .none
        else (t.resolve a).1.captureMode

/-- Validation of a table: an entry that is valid fails where its limit page lies below its base page or it is SPLIT
with a class other than DEVICE; the default region fails by the second test alone; the failing index is the lowest. -/
def Obligations.ValidationFindsTheLowestFailingIndex : Prop :=
  ∀ t : RegionTable,
    let fails : Fin 16 → Prop := fun k =>
      (t.entries.get k).valid = true ∧
        ((t.entries.get k).limit.toNat < (t.entries.get k).base.toNat ∨
          (t.entries.get k).settings.captureMode = .split ∧ (t.entries.get k).settings.cls ≠ .device)
    let defaultFails : Prop := t.defaultRegion.captureMode = .split ∧ t.defaultRegion.cls ≠ .device
    (t.failingIndex = none ↔ (∀ k, ¬ fails k) ∧ ¬ defaultFails) ∧
    (∀ k : Fin 16, t.failingIndex = some k.castSucc ↔ fails k ∧ ∀ j, j < k → ¬ fails j) ∧
    (t.failingIndex = some 16 ↔ (∀ k, ¬ fails k) ∧ defaultFails)

/-- COPY_ACTIVE replaces the whole shadow table by the active one, is answered OK, and changes nothing else. -/
def Obligations.CopyActiveReplacesTheShadowTable : Prop :=
  ∀ s : State, s.AtCommand →
    exec .copyActive s =
      .next
        { s with
          regions := { s.regions with shadow := s.regions.active }
          mgmt := s.replying (some .copyActive) 0x00 [] }

/-- A COMMIT whose validation fails is answered INVALID_ENTRY with the failing index and changes nothing else. A
COMMIT whose validation succeeds installs the shadow table, seals every OPEN entry and clears the seventeen pace
records, at one event, is answered OK, and the Issue Arbiter decides. -/
def Obligations.CommitInstallsAValidTable : Prop :=
  (∀ (s : State) (k : RegionIndex), s.AtCommand → s.regions.shadow.failingIndex = some k →
     exec .commit s = .next { s with mgmt := s.replying (some .commit) 0x05 [BitVec.ofNat 8 k.val] }) ∧
  (∀ s : State, s.AtCommand → s.regions.shadow.failingIndex = none →
     exec .commit s =
       .next
         (State.judge
           { s with
             regions := { s.regions with active := s.regions.shadow }
             posting := s.posting.map fun e =>
               if e.state = .opened then { e with state := .sealed, mergeExpiry := none } else e
             pacing := { s.pacing with records := Vector.replicate 17 { last := none, time := 0 } }
             mgmt := s.replying (some .commit) 0x00 [] }))

/-- READ_REGION: an index above 16 is BAD_INDEX, then a table code other than 00h and 01h is BAD_VALUE; else the
entry, or the default region after nine bytes FFh, is returned and nothing changes. WRITE_REGION: an index above 16 is
BAD_INDEX; bytes that encode an entry, or for index 16 the default region, replace it in the shadow table; other bytes
are BAD_VALUE. The thirteen bytes of an entry are its valid field, its base and limit pages with the most significant
byte first, and the codes of its class, profile, capture mode and locking, the last four being those of its settings. -/
def Obligations.RegionsAreReadAndWritten : Prop :=
  (∀ e : RegionEntry,
     e.encode =
       [if e.valid = true then 0x01 else 0x00, BitVec.ofNat 8 (e.base.toNat / 2 ^ 24),
         BitVec.ofNat 8 (e.base.toNat / 2 ^ 16), BitVec.ofNat 8 (e.base.toNat / 2 ^ 8), BitVec.ofNat 8 e.base.toNat,
         BitVec.ofNat 8 (e.limit.toNat / 2 ^ 24), BitVec.ofNat 8 (e.limit.toNat / 2 ^ 16),
         BitVec.ofNat 8 (e.limit.toNat / 2 ^ 8), BitVec.ofNat 8 e.limit.toNat] ++ e.settings.encode) ∧
  (∀ d : RegionSettings,
     d.encode =
       [match d.cls with
        | .merge => 0x00
        | .posted => 0x01
        | .device => 0x02
        | .blocked => 0x03,
         BitVec.ofNat 8 d.profile.val,
         match d.captureMode with
         | .none => 0x00
         | .split => 0x01,
         match d.locking with
         | .allowed => 0x00
         | .forbidden => 0x01]) ∧
  (∀ (s : State) (table index : Byte), s.AtLastArgument .readRegion [table] →
     (16 < index.toNat →
       exec (.readRegion index) s = .next { s with mgmt := s.replying (some .readRegion) 0x02 [] }) ∧
     (index.toNat ≤ 16 → 1 < table.toNat →
       exec (.readRegion index) s = .next { s with mgmt := s.replying (some .readRegion) 0x03 [] }) ∧
     ∀ t : RegionTable, (table = 0x00 ∧ t = s.regions.active ∨ table = 0x01 ∧ t = s.regions.shadow) →
       (∀ k : Fin 16, index.toNat = k.val →
         exec (.readRegion index) s =
           .next { s with mgmt := s.replying (some .readRegion) 0x00 (t.entries.get k).encode }) ∧
       (index.toNat = 16 →
         exec (.readRegion index) s =
           .next
             { s with
               mgmt := s.replying (some .readRegion) 0x00 (List.replicate 9 0xFF ++ t.defaultRegion.encode) })) ∧
  (∀ (s : State) (index last : Byte) (bytes : List Byte), s.AtLastArgument .writeRegion (index :: bytes) →
     let encoding := bytes ++ [last]
     (16 < index.toNat →
       exec (.writeRegion last) s = .next { s with mgmt := s.replying (some .writeRegion) 0x02 [] }) ∧
     (∀ (k : Fin 16) (e : RegionEntry), index.toNat = k.val → encoding = e.encode →
       exec (.writeRegion last) s =
         .next
           { s with
             regions :=
               { s.regions with
                 shadow := { s.regions.shadow with entries := vset s.regions.shadow.entries k e } }
             mgmt := s.replying (some .writeRegion) 0x00 [] }) ∧
     (∀ d : RegionSettings, index.toNat = 16 → encoding.drop 9 = d.encode →
       exec (.writeRegion last) s =
         .next
           { s with
             regions := { s.regions with shadow := { s.regions.shadow with defaultRegion := d } }
             mgmt := s.replying (some .writeRegion) 0x00 [] }) ∧
     (index.toNat < 16 → (∀ e : RegionEntry, encoding ≠ e.encode) →
       exec (.writeRegion last) s = .next { s with mgmt := s.replying (some .writeRegion) 0x03 [] }) ∧
     (index.toNat = 16 → (∀ d : RegionSettings, encoding.drop 9 ≠ d.encode) →
       exec (.writeRegion last) s = .next { s with mgmt := s.replying (some .writeRegion) 0x03 [] }))

/-! ### Management Port -/

/-- FRAME_START moves an idle port to COMMAND; FRAME_END returns it to IDLE, and removes the head fault record exactly
where the frame was a POP_FAULT answered OK and completed in full. -/
def Obligations.FramesStartAndEnd : Prop :=
  ∀ s : State,
    (s.pins.csLow = false → s.pins.resetLow = false → s.mgmt.phase = .idle →
      exec .frameStart s =
        .next { s with pins := { s.pins with csLow := true }, mgmt := { s.mgmt with phase := .command } }) ∧
    (s.pins.csLow = false → s.pins.resetLow = true →
      exec .frameStart s = .next { s with pins := { s.pins with csLow := true } }) ∧
    (s.pins.csLow = true → (∀ bytes, s.mgmt.phase ≠ .trailing (some .popFault) (0x00 :: bytes)) →
      exec .frameEnd s =
        .next { s with pins := { s.pins with csLow := false }, mgmt := { s.mgmt with phase := .idle } }) ∧
    ∀ (bytes : List Byte) (r : FaultRecord) (rest : List FaultRecord),
      s.pins.csLow = true → s.mgmt.phase = .trailing (some .popFault) (0x00 :: bytes) → s.faults.records = r :: rest →
      exec .frameEnd s =
        .next
          { s with
            pins := { s.pins with csLow := false }
            mgmt := { s.mgmt with phase := .idle }
            faults :=
              { s.faults with
                records := rest
                faultN := if rest = [] then .high else s.faults.faultN } }

/-- A byte that names a command with arguments (10h, 11h, 20h, 21h, 30h, 31h) moves the port to ARGUMENTS, and a byte
that does not complete the command's 2, 14, 1, 4, 1 or 3 argument bytes is added to them. In RESPONSE the next response
byte is shifted out, and TRAILING follows the last; in TRAILING the fill value is. What is on MOSI is ignored. An
undefined command byte is answered BAD_COMMAND and takes no arguments. In IGNORE, and in IDLE, which RESET_N holds the
port in while it is low, a byte is not decoded: the fill value is driven and nothing else happens, whichever row carries
it. (Which row a byte is: log entry 7; fill in IGNORE: log entry 17.) Before the first power-on reset MISO carries
nothing. -/
def Obligations.CommandBytesAreTakenAndAnswered : Prop :=
  (∀ (s : State) (b : Byte),
     ∀ row ∈ [(0x10#8, Command.readRegion, 2), (0x11#8, .writeRegion, 14), (0x20#8, .readProfile, 1),
         (0x21#8, .writeProfile, 4), (0x30#8, .readLimit, 1), (0x31#8, .writeLimit, 3)],
       row.2.1.argumentBytes = row.2.2 ∧
       (s.AtCommand →
         exec (.byteReceived row.1) s =
           .next { s with mgmt := { s.mgmt with miso := s.misoWith 0xFF, phase := .arguments row.2.1 [] } }) ∧
       ∀ args : List Byte, s.pins.csLow = true → s.mgmt.phase = .arguments row.2.1 args →
         args.length + 1 < row.2.2 →
           exec (.byteReceived b) s =
             .next
               { s with
                 mgmt := { s.mgmt with miso := s.misoWith 0xFF, phase := .arguments row.2.1 (args ++ [b]) } }) ∧
  (∀ (s : State) (c : Instr) (b : Byte), s.pins.csLow = true → s.mgmt.phase = .ignore ∨ s.mgmt.phase = .idle →
     mosiByte c = some b → exec c s = .next { s with mgmt := { s.mgmt with miso := s.misoWith 0xFF } }) ∧
  (∀ s : State, s.pins.hadReset = false → ∀ b, s.misoWith b = s.mgmt.miso) ∧
  (∀ (s : State) (mosi : Byte) (c : Option Command) (bytes : List Byte), s.pins.csLow = true →
     (∀ (sent : Nat) (h : sent < bytes.length), s.mgmt.phase = .response c bytes sent →
       exec (.bytePositionClocked mosi) s =
         .next
           { s with
             mgmt :=
               { s.mgmt with
                 miso := s.misoWith bytes[sent]
                 phase :=
                   if sent + 1 = bytes.length then .trailing c bytes else .response c bytes (sent + 1) } }) ∧
     (s.mgmt.phase = .trailing c bytes →
       exec (.bytePositionClocked mosi) s = .next { s with mgmt := { s.mgmt with miso := s.misoWith 0xFF } })) ∧
  (∀ (s : State) (b : Byte), s.AtCommand →
     b ∉ [0x01#8, 0x10#8, 0x11#8, 0x12#8, 0x13#8, 0x20#8, 0x21#8, 0x30#8, 0x31#8, 0x40#8, 0x50#8, 0x5A#8] →
       exec (.badCommand b) s = .next { s with mgmt := s.replying none 0x01 [] })

/-- STATUS is answered OK with the identity, the port state and the occupancies, and changes no other state. -/
def Obligations.StatusReportsTheOccupancies : Prop :=
  ∀ s : State, s.AtCommand →
    exec .status s =
      .next
        { s with
          mgmt :=
            s.replying (some .status) 0x00
              [0x5B, 0x03, 0x40, 0x01,
                match s.port.state with
                | .ready => 0x00
                | .busy _ _ => 0x01
                | .stalled _ => 0x02,
                BitVec.ofNat 8 s.posting.length, BitVec.ofNat 8 s.waiting.length,
                BitVec.ofNat 8
                  ((List.finRange 8).filter fun k =>
                    (s.captures.get k).capture.isSome || (s.captures.get k).claim.isSome).length,
                BitVec.ofNat 8 ((List.finRange 2).filter fun k => s.locks.slots.get k != .free).length,
                BitVec.ofNat 8 s.progress.favoured.length, BitVec.ofNat 8 s.faults.records.length] }

/-- READ_PROFILE and WRITE_PROFILE: a profile above 3 is BAD_INDEX, then a turnaround above 15 is BAD_VALUE; a profile
is returned as it stands, or replaced whole, and then the kept pacing expiries are computed anew and the arbiter
decides (at every such WRITE_PROFILE: log entry 19). READ_LIMIT and WRITE_LIMIT: an identifier not 01h to 08h is
BAD_INDEX, then a value outside the limit's range is BAD_VALUE; a limit is returned as it stands, or replaced, and
nothing else changes. -/
def Obligations.ProfilesAndLimitsAreReadAndWritten : Prop :=
  (∀ s : State,
     (∀ n : Byte, s.AtLastArgument .readProfile [] →
       (3 < n.toNat → exec (.readProfile n) s = .next { s with mgmt := s.replying (some .readProfile) 0x02 [] }) ∧
       ∀ k : ProfileIndex, n.toNat = k.val →
         let p := s.pacing.profiles.get k
         exec (.readProfile n) s =
           .next
             { s with
               mgmt :=
                 s.replying (some .readProfile) 0x00
                   [BitVec.ofNat 8 p.readGap.val, BitVec.ofNat 8 p.writeGap.val, BitVec.ofNat 8 p.turnaround.val] }) ∧
     ∀ n readGap writeGap last : Byte, s.AtLastArgument .writeProfile [n, readGap, writeGap] →
       (3 < n.toNat →
         exec (.writeProfile last) s = .next { s with mgmt := s.replying (some .writeProfile) 0x02 [] }) ∧
       (n.toNat ≤ 3 → 15 < last.toNat →
         exec (.writeProfile last) s = .next { s with mgmt := s.replying (some .writeProfile) 0x03 [] }) ∧
       ∀ (k : ProfileIndex) (p : PacingProfile), n.toNat = k.val → p.readGap.val = readGap.toNat →
         p.writeGap.val = writeGap.toNat → p.turnaround.val = last.toNat →
         exec (.writeProfile last) s =
           .next
             (State.judge
               { s with
                 pacing := { s.pacing with profiles := vset s.pacing.profiles k p }
                 mgmt := s.replying (some .writeProfile) 0x00 [] })) ∧
  (∀ s : State,
     let table : List (Nat × LimitName × Nat × Nat) :=
       [(1, .retryThreshold, 1, 15), (2, .lockTimeout, 16, 65535), (3, .captureRetention, 64, 65535),
         (4, .memoryTimeout, 256, 65535), (5, .mergeAge, 0, 255), (6, .drainAge, 16, 4095), (7, .highWater, 1, 16),
         (8, .reservationTimeout, 64, 65535)]
     (∀ id : Byte, s.AtLastArgument .readLimit [] →
       ((id.toNat = 0 ∨ 8 < id.toNat) →
         exec (.readLimit id) s = .next { s with mgmt := s.replying (some .readLimit) 0x02 [] }) ∧
       ∀ row ∈ table, row.1 = id.toNat →
         exec (.readLimit id) s =
           .next
             { s with
               mgmt :=
                 s.replying (some .readLimit) 0x00
                   [BitVec.ofNat 8 (s.mgmt.limits.get row.2.1 / 256), BitVec.ofNat 8 (s.mgmt.limits.get row.2.1)] }) ∧
     ∀ id high low : Byte, s.AtLastArgument .writeLimit [id, high] →
       let value := high.toNat * 256 + low.toNat
       ((id.toNat = 0 ∨ 8 < id.toNat) →
         exec (.writeLimit low) s = .next { s with mgmt := s.replying (some .writeLimit) 0x02 [] }) ∧
       ∀ row ∈ table, row.1 = id.toNat →
         (value < row.2.2.1 ∨ row.2.2.2 < value →
           exec (.writeLimit low) s = .next { s with mgmt := s.replying (some .writeLimit) 0x03 [] }) ∧
         (row.2.2.1 ≤ value → value ≤ row.2.2.2 →
           exec (.writeLimit low) s =
             .next
               { s with
                 mgmt :=
                   { s.replying (some .writeLimit) 0x00 [] with limits := s.mgmt.limits.set row.2.1 value } }))

/-- POP_FAULT reads out the head record, or is answered EMPTY; it removes nothing at its taking. The seventeen bytes of
a record are its sequence number, kind, contributor set (bit n set for initiator n), initiator, line address, byte
mask, access number, count and overflow count, the most significant byte first; a field its kind does not carry is FFh
in every byte. -/
def Obligations.PopFaultReadsOutTheHead : Prop :=
  (∀ s : State, s.AtCommand →
    (s.faults.records = [] → exec .popFault s = .next { s with mgmt := s.replying (some .popFault) 0x06 [] }) ∧
    ∀ (r : FaultRecord) (rest : List FaultRecord), s.faults.records = r :: rest →
      exec .popFault s = .next { s with mgmt := s.replying (some .popFault) 0x00 r.encode }) ∧
  (∀ (r : FaultRecord) (set : List Initiator → Byte),
    (∀ (l : List Initiator) (n : Initiator), (set l).getLsbD n.val = true ↔ n ∈ l) →
    let lineBytes : Addr → List Byte := fun line =>
      [BitVec.ofNat 8 (line.toNat / 2 ^ 32), BitVec.ofNat 8 (line.toNat / 2 ^ 24), BitVec.ofNat 8 (line.toNat / 2 ^ 16),
        BitVec.ofNat 8 (line.toNat / 2 ^ 8), BitVec.ofNat 8 line.toNat]
    let maskBytes : Mask → List Byte := fun mask =>
      [BitVec.ofNat 8 (mask.toNat / 2 ^ 24), BitVec.ofNat 8 (mask.toNat / 2 ^ 16), BitVec.ofNat 8 (mask.toNat / 2 ^ 8),
        BitVec.ofNat 8 mask.toNat]
    r.encode =
      [BitVec.ofNat 8 (r.seq.toNat / 2 ^ 8), BitVec.ofNat 8 r.seq.toNat] ++
        (match r.body with
         | .writeError l line mask => [0x01, set l, 0xFF] ++ lineBytes line ++ maskBytes mask ++ [0xFF, 0xFF]
         | .writeTimeout l line mask => [0x02, set l, 0xFF] ++ lineBytes line ++ maskBytes mask ++ [0xFF, 0xFF]
         | .lockBroken i line =>
           [0x03, 0xFF, BitVec.ofNat 8 i.val] ++ lineBytes line ++ [0xFF, 0xFF, 0xFF, 0xFF, 0xFF, 0xFF]
         | .lateCompletion n =>
           [0x04, 0xFF, 0xFF, 0xFF, 0xFF, 0xFF, 0xFF, 0xFF, 0xFF, 0xFF, 0xFF, 0xFF, BitVec.ofNat 8 n.val, 0xFF]
         | .discarded n =>
           [0x05, 0xFF, 0xFF, 0xFF, 0xFF, 0xFF, 0xFF, 0xFF, 0xFF, 0xFF, 0xFF, 0xFF, 0xFF, BitVec.ofNat 8 n]) ++
        [BitVec.ofNat 8 r.overflow.val])

/-- ABANDON in STALLED drops the awaited access and makes the port READY, answered OK, and the Issue Arbiter decides;
in READY or BUSY it is answered REFUSED and the port is unchanged. -/
def Obligations.AbandonEndsAStall : Prop :=
  ∀ s : State, s.AtCommand →
    (∀ aw, s.port.state = .stalled aw →
      exec .abandon s =
        .next
          (State.judge
            { s with port := { s.port with state := .ready }, mgmt := s.replying (some .abandon) 0x00 [] })) ∧
    ((∀ aw, s.port.state ≠ .stalled aw) →
      exec .abandon s = .next { s with mgmt := s.replying (some .abandon) 0x04 [] })

/-- SOFT_RESET: every block takes its part at one event. The ABANDONED answers leave in an order that is not fixed.
(The free order: log entry 4.) -/
def Obligations.SoftResetReachesEveryBlock : Prop :=
  ∀ s : State, s.AtCommand →
    ∃ (answers : List Response) (n : Nat),
      answers.Perm (s.waiting.map fun w => bareResponse w.initiator w.tag .abandoned) ∧
      exec .softReset s =
        .next
          (State.judge
            { s with
              fabric :=
                { s.fabric with
                  outTags := Vector.replicate 8 []
                  responses := s.fabric.responses ++ answers }
              posting := []
              waiting := []
              port :=
                { s.port with
                  state :=
                    match s.port.state with
                    | .busy aw e => .busy { aw with requester := .orphan } e
                    | .ready => .ready
                    | .stalled aw => .stalled aw }
              pacing := { s.pacing with records := Vector.replicate 17 { last := none, time := 0 } }
              captures := Vector.replicate 8 { capture := none, claim := none }
              locks := { slots := Vector.replicate 2 .free, markers := Vector.replicate 8 none }
              progress :=
                { counts := Vector.replicate 8 0, favoured := [], wanted := .none, reservation := none }
              faults :=
                if s.posting = [] then s.faults else s.faults.handOver (.discarded s.posting.length)
              mgmt := s.replying (some .softReset) 0x00 []
              freeCount := n })

/-! ### Fabric Port -/

/-- The fields of a request frame are those its kind's row of R160 requires, exactly where the frame decodes to a
request (the frame carries as many data bytes as its header says). Each field of a request header stands at its bits. A
response frame is its header, with each field at its bits, in four bytes from bits 7 to 0 on, and then its data. -/
def Obligations.WellFormedFramesDecode : Prop :=
  (∀ h : BitVec 64,
     (headerInitiator h).val = h.toNat % 8 ∧ (headerTag h).val = h.toNat / 2 ^ 3 % 16 ∧
     headerKind h = h.toNat / 2 ^ 7 % 16 ∧ headerSizeCode h = h.toNat / 2 ^ 11 % 8 ∧
     (headerAddressPresent h = true ↔ h.toNat / 2 ^ 14 % 2 = 1) ∧ headerHintCode h = h.toNat / 2 ^ 15 % 4 ∧
     headerDataLength h = h.toNat / 2 ^ 17 % 128 ∧ (headerAddress h).toNat = h.toNat / 2 ^ 24) ∧
  (∀ r : Response, r.data.length ≤ 32 →
     let status : Nat :=
       [Status.done, .writeTaken, .replayed, .retry, .declined, .malformed, .protocol, .limit, .lockLost, .portError,
         .portTimeout, .abandoned].idxOf r.status
     let reason : Nat :=
       [none, some Reason.queueFull, some .lineLocked, some .noLockSlot, some .reserved, some .blockedRegion,
         some .lockingForbidden].idxOf r.reason
     let source : Nat := [none, some Source.memory, some .queue, some .latch].idxOf r.source
     let header : Nat :=
       r.initiator.val + 2 ^ 3 * r.tag.val + 2 ^ 7 * status + 2 ^ 11 * reason + 2 ^ 14 * source + 2 ^ 16 * r.data.length
     r.frame =
       [BitVec.ofNat 8 header, BitVec.ofNat 8 (header / 2 ^ 8), BitVec.ofNat 8 (header / 2 ^ 16),
         BitVec.ofNat 8 (header / 2 ^ 24)] ++ r.data) ∧
  ∀ (h : BitVec 64) (data : List Byte), headerDataLength h = data.length →
    let target : Prop := headerAddressPresent h = true ∧ ∃ size, sizeOfCode (headerSizeCode h) = some size ∧
      (headerAddress h).toNat % size.bytes = 0
    let sized : Prop := ∀ size, sizeOfCode (headerSizeCode h) = some size → data.length = size.bytes
    let bare : Prop := headerAddressPresent h = false ∧ headerSizeCode h = 0 ∧ headerHintCode h = 0 ∧ data = []
    ((decodeRequest h data).isSome = true ↔
      (headerKind h = 0 ∧ target ∧ headerHintCode h ≠ 0 ∧ data = []) ∨
      (headerKind h = 1 ∧ target ∧ headerHintCode h ≠ 0 ∧ sized) ∨
      (headerKind h = 2 ∧ target ∧ headerHintCode h = 0 ∧ data = []) ∨
      (headerKind h = 3 ∧ target ∧ headerHintCode h = 0 ∧ sized) ∨
      (headerKind h = 4 ∧ bare) ∨ (headerKind h = 5 ∧ bare) ∨ (headerKind h = 6 ∧ bare))

/-- The frame of every well-formed request decodes to that request, with every field at every value. -/
def Obligations.RequestFramesRoundTrip : Prop :=
  ∀ r : Request, r.kind.wellFormed = true → decodeRequest r.header r.kind.data = some r

/-- While the link is IN_RESET every request frame is discarded, whichever row it comes under. LINK_UP brings the link
from IN_RESET to UP and the Issue Arbiter decides; while the link is UP, or RESET_N is low, it changes nothing (the
latter: log entry 16). -/
def Obligations.FramesAreDiscardedUntilLinkUp : Prop :=
  (∀ s : State, s.fabric.link = .inReset →
     (∀ r : Request, exec r.command s = .next s) ∧
     ∀ (h : BitVec 64) (data : List Byte),
       exec (.malformedRequest h data) s = .next s ∧ exec (.frameDiscardedInReset h data) s = .next s) ∧
  (∀ s : State,
     (s.fabric.link = .inReset → s.pins.resetLow = false →
       exec .linkUp s = .next (State.judge { s with fabric := { s.fabric with link := .up } })) ∧
     (s.fabric.link = .up ∨ s.pins.resetLow = true → exec .linkUp s = .next s))

/-- A request that is not well formed is refused MALFORMED with its initiator and tag. A well-formed frame is the
arrival of its request, whichever row it comes under (log entry 9). A request of any kind whose tag is outstanding is
refused PROTOCOL, and nothing else is done. -/
def Obligations.RequestsAreCheckedForFormAndTag : Prop :=
  (∀ s : State, s.fabric.link = .up →
     (∀ (h : BitVec 64) (data : List Byte), decodeRequest h data = none →
       exec (.malformedRequest h data) s =
         .next (s.respond (bareResponse (headerInitiator h) (headerTag h) .malformed))) ∧
     (∀ r : Request, r.kind.wellFormed = false →
       exec r.command s = .next (s.respond (bareResponse r.initiator r.tag .malformed))) ∧
     ∀ (h : BitVec 64) (data : List Byte) (r : Request), decodeRequest h data = some r →
       exec (.malformedRequest h data) s = exec r.command s ∧ exec (.frameDiscardedInReset h data) s = exec r.command s) ∧
  (∀ (s : State) (r : Request), s.fabric.link = .up → r.kind.wellFormed = true →
     r.tag ∈ s.fabric.outTags.get r.initiator →
       exec r.command s = .next (s.respond (bareResponse r.initiator r.tag .protocol)))

/-- A response of the other group: the count becomes 0 and the initiator leaves the Favoured List; where it was the
head the next member becomes head, wants NONE and starts the timer. A RETRY: the count rises by 1 up to 15; at the
threshold an initiator that is no member joins at the end; the head's refusal sets the wanted resource and starts or
restarts the timer. -/
def Obligations.ResponsesDriveTheProgressMonitor : Prop :=
  (∀ (s : State) (r : Response), s.progress.favoured.Nodup →
     let p := s.progress.other r.initiator (s.tick + s.mgmt.limits.reservationTimeout)
     s.respond r = { s with fabric := { s.fabric with responses := s.fabric.responses ++ [r] }, progress := p } ∧
     (∀ i, p.counts.get i = if i = r.initiator then 0 else s.progress.counts.get i) ∧
     p.favoured = s.progress.favoured.filter (· ≠ r.initiator) ∧
     if s.progress.favoured.head? = some r.initiator then
       p.wanted = .none ∧
         p.reservation = if p.favoured = [] then none else some (s.tick + s.mgmt.limits.reservationTimeout)
     else p.wanted = s.progress.wanted ∧ p.reservation = s.progress.reservation) ∧
  (∀ (s : State) (r : Request) (cause : RetryCause),
     ∃ p : ProgressMonitor,
       s.refuseRetry r cause =
         { s with
           fabric :=
             { s.fabric with
               responses :=
                 s.fabric.responses ++
                   [{ bareResponse r.initiator r.tag .retry with reason := some cause.reason }] }
           progress := p } ∧
       (p.counts.get r.initiator).val = min 15 ((s.progress.counts.get r.initiator).val + 1) ∧
       (∀ i, i ≠ r.initiator → p.counts.get i = s.progress.counts.get i) ∧
       p.favoured =
         (if s.mgmt.limits.retryThreshold ≤ (p.counts.get r.initiator).val ∧ r.initiator ∉ s.progress.favoured then
           s.progress.favoured ++ [r.initiator]
         else s.progress.favoured) ∧
       if p.favoured.head? = some r.initiator then
         p.wanted =
             (match cause with
              | .queueFull => .queueEntry
              | .noLockSlot => .lockSlot
              | .lineLocked line => .line line
              | .reserved => s.progress.wanted) ∧
           p.reservation = some (s.tick + s.mgmt.limits.reservationTimeout)
       else p.wanted = s.progress.wanted ∧ p.reservation = s.progress.reservation)

/-- An exact re-issue is answered from its capture, which stays, with its retention timer restarted; nothing else is
done, whatever the tables, the count and the locks say. -/
def Obligations.ExactReissuesAreReplayed : Prop :=
  ∀ (s : State) (i : Initiator) (t : Tag) (a : Addr) (size : Size) (hint : Hint) (k : Fin 8) (c : Capture),
    s.Receives { initiator := i, tag := t, kind := .read a size hint } → s.holdsCapture k c →
    c.recordsRead i t a size = true →
    (∀ j d, s.holdsCapture j d → d.recordsRead i t a size = true → j = k) →
      exec (.read i t a size hint) s =
        .next
          (State.respond
            { s with
              captures :=
                vset s.captures k
                  { s.captures.get k with
                    capture := some { c with expiry := s.tick + s.mgmt.limits.captureRetention } } }
            (match c.result with
             | .ok =>
               { bareResponse i t .replayed with
                 data :=
                   match c.key with
                   | .replay _ _ _ => c.data
                   | .split _ _ _ => if a.toNat % 8 < 4 then c.data.take 4 else c.data.drop 4 }
             | .portError => bareResponse i t .portError
             | .portTimeout => bareResponse i t .portTimeout))

/-- A latch answers a 4-byte READ of its word while it is in state HALF: the read's tag is recorded in its half, the
retention timer restarts, and every other capture recording the tag is removed. -/
def Obligations.LatchesAnswerTheOtherHalf : Prop :=
  ∀ (s : State) (i : Initiator) (t : Tag) (a : Addr) (hint : Hint) (k : Fin 8) (c : Capture) (low high : Option Tag),
    s.Receives { initiator := i, tag := t, kind := .read a .b4 hint } → s.holdsCapture k c → c.initiator = i →
    c.key = .split (wordOf a) low high → (low = none ∨ high = none) →
    (∀ j d, s.holdsCapture j d → d.recordsRead i t a .b4 = false) →
    (∀ j d, s.holdsCapture j d → d.splitFor i (wordOf a) = true → j = k) →
      exec (.read i t a .b4 hint) s =
        .next
          (s.settled
            (State.respond
              { s with
                captures :=
                  vset (vmap (Place.drop fun d => d.recordsTag i t) s.captures) k
                    { s.captures.get k with
                      capture :=
                        some
                          { c with
                            key :=
                              if a.toNat % 8 < 4 then .split (wordOf a) (some t) high
                              else .split (wordOf a) low (some t)
                            expiry := s.tick + s.mgmt.limits.captureRetention } } }
              (match c.result with
               | .ok =>
                 { bareResponse i t .done with
                   source := some .latch
                   data := if a.toNat % 8 < 4 then c.data.take 4 else c.data.drop 4 }
               | .portError => bareResponse i t .portError
               | .portTimeout => bareResponse i t .portTimeout)))

/-- A DISCARD removes every capture recording its tag and is answered DONE. -/
def Obligations.DiscardRemovesTheCapturesOfItsTag : Prop :=
  ∀ (s : State) (i : Initiator) (t : Tag), s.fabric.link = .up → t ∉ s.fabric.outTags.get i →
    exec (.discard i t) s =
      .next
        (s.settled
          (State.respond
            { s with
              captures :=
                vmap
                  (fun p =>
                    match p.capture with
                    | some c => if c.recordsTag i t = true then { p with capture := none } else p
                    | none => p)
                  s.captures }
            (bareResponse i t .done)))

/-- The refusals before the kind step, in their order: a BLOCKED region, four requests outstanding (not for a posted
write), another initiator's lock on the line. The captures the lookup removed stay removed. -/
def Obligations.ArrivalsAreCheckedInOrder : Prop :=
  ∀ (s : State) (r : Request), s.Receives r → s.Unanswered r →
    (r.kind = .fence → 4 ≤ (s.fabric.outTags.get r.initiator).length →
      exec r.command s = .next (s.settled ((s.lookedUp r).respond (bareResponse r.initiator r.tag .limit)))) ∧
    ∀ (a : Addr) (hint : Hint), r.kind.target = some (a, hint) →
      let c := s.regions.active.classify a hint
      (c.cls = .blocked →
        exec r.command s =
          .next
            (s.settled
              ((s.lookedUp r).respond
                { bareResponse r.initiator r.tag .declined with reason := some .blockedRegion }))) ∧
      (c.cls ≠ .blocked → r.kind.posts c.cls = false → 4 ≤ (s.fabric.outTags.get r.initiator).length →
        exec r.command s = .next (s.settled ((s.lookedUp r).respond (bareResponse r.initiator r.tag .limit)))) ∧
      (c.cls ≠ .blocked → (r.kind.posts c.cls = true ∨ (s.fabric.outTags.get r.initiator).length < 4) →
        s.ShutOut r.initiator (lineOf a) →
        exec r.command s = .next (s.settled ((s.lookedUp r).refuseRetry r (.lineLocked (lineOf a)))))

/-- A READ at the kind step: of class MERGE and fully held by the youngest entry for its line, with no write to the
line waiting, it is answered from the Posting Queue; else it is taken into the Wait List, sealing OPEN entries, with
its waits-for set, and the Issue Arbiter decides. An 8- or 32-byte READ removes its initiator's latches. -/
def Obligations.ReadsAreForwardedOrTaken : Prop :=
  ∀ (s : State) (i : Initiator) (t : Tag) (a : Addr) (size : Size) (hint : Hint),
    let r : Request := { initiator := i, tag := t, kind := .read a size hint }
    let c := s.regions.active.classify a hint
    let u := if size = .b8 ∨ size = .b32 then (s.lookedUp r).dropOwnLatches i a size else s.lookedUp r
    s.Receives r → s.Unanswered r → c.cls ≠ .blocked → (s.fabric.outTags.get i).length < 4 →
    ¬ s.ShutOut i (lineOf a) →
      (∀ e, c.cls = .merge → s.QueueAnswers a size e →
        exec (.read i t a size hint) s =
          .next
            (s.settled
              (u.respond
                { bareResponse i t .done with
                  source := some .queue
                  data := (e.data.drop (a.toNat % 32)).take size.bytes }))) ∧
      (c.cls ≠ .merge ∨ (∀ e, ¬ s.QueueAnswers a size e) →
        exec (.read i t a size hint) s =
          .next
            (State.judge
              { u with
                posting := closeWhere (fun e => c.cls == .device || e.line == lineOf a) s.posting
                waiting :=
                  s.waiting ++
                    [s.waitEntry r .read c a size []
                      (if c.cls = .device then []
                       else
                         (s.posting.filter fun e =>
                           e.line == lineOf a && overlaps e.mask (byteMask a size)).map (·.seq))]
                fabric := s.tagTaken r }))

/-- A posted write of class MERGE joins the OPEN entry for its line: its bytes, its initiator, and the mark of the
youngest DEVICE write to the line. It is answered WRITE_TAKEN and removes the latches it overlaps. -/
def Obligations.PostedWritesMerge : Prop :=
  ∀ (s : State) (i : Initiator) (t : Tag) (a : Addr) (size : Size) (hint : Hint) (data : List Byte),
    let r : Request := { initiator := i, tag := t, kind := .write a size hint data }
    s.Receives r → (s.regions.active.classify a hint).cls = .merge → ¬ s.ShutOut i (lineOf a) →
    ¬ s.OwnsLine i (lineOf a) → (∃ e ∈ s.posting, e.isOpen = true ∧ e.line = lineOf a) →
      exec (.write i t a size hint data) s =
        .next
          (s.settled
            (State.respond
              { (s.lookedUp r).dropLatches a size with
                posting :=
                  s.posting.map fun e =>
                    if e.isOpen = true ∧ e.line = lineOf a then
                      { e with
                        mask := e.mask ||| byteMask a size
                        data := e.data.take (a.toNat % 32) ++ data ++ e.data.drop (a.toNat % 32 + data.length)
                        contributors := if i ∈ e.contributors then e.contributors else e.contributors ++ [i]
                        heldBehind :=
                          match youngest (fun w => w.isDeviceWriteTo (lineOf a)) s.waiting with
                          | some n => some n
                          | none => e.heldBehind }
                    else e }
              (bareResponse i t .writeTaken)))

/-- A posted write that does not merge creates an entry at the tail, OPEN for class MERGE with a merge age above 0,
else SEALED; a POSTED-class write seals the line's OPEN entry first. It is answered WRITE_TAKEN. The Issue Arbiter
decides where the entry is the new head, the head was sealed, or a Capture Table place was freed. A posted write that
needs a new entry is refused QUEUE_FULL while 16 entries exist, else RESERVED while a queue entry is reserved for
another initiator; no entry changes. -/
def Obligations.PostedWritesCreateEntriesOrAreRefused : Prop :=
  (∀ (s : State) (i : Initiator) (t : Tag) (a : Addr) (size : Size) (hint : Hint) (data : List Byte),
     let r : Request := { initiator := i, tag := t, kind := .write a size hint data }
     let c := s.regions.active.classify a hint
     let opens := c.cls = .merge ∧ 0 < s.mgmt.limits.mergeAge
     s.Receives r → ¬ s.ShutOut i (lineOf a) → ¬ s.OwnsLine i (lineOf a) →
     (c.cls = .posted ∨ c.cls = .merge ∧ ∀ e ∈ s.posting, e.isOpen = true → e.line ≠ lineOf a) →
     s.posting.length < 16 → ¬ s.ReservedFrom i .queueEntry →
       let u : State :=
         State.respond
           { (s.lookedUp r).dropLatches a size with
             posting :=
               (if c.cls = .posted then closeWhere (fun e => e.line == lineOf a) s.posting else s.posting) ++
                 [{ seq := s.fabric.nextSeq
                    line := lineOf a
                    mask := byteMask a size
                    data := overwrite (List.replicate 32 0) (a.toNat % 32) data
                    cls := c.cls
                    region := c.region
                    profile := c.profile
                    contributors := [i]
                    state := if opens then .opened else .sealed
                    heldBehind := youngest (fun w => w.isDeviceWriteTo (lineOf a)) s.waiting
                    mergeExpiry := if opens then some (s.tick + s.mgmt.limits.mergeAge) else none
                    drainExpiry := some (s.tick + s.mgmt.limits.drainAge)
                    overdue := false }]
             fabric := { s.fabric with nextSeq := s.fabric.nextSeq + 1 } }
           (bareResponse i t .writeTaken)
       let newHead : Prop := s.posting = []
       let headSealed : Prop :=
         ∃ e rest, s.posting = e :: rest ∧ c.cls = .posted ∧ e.state = .opened ∧ e.line = lineOf a
       (newHead ∨ headSealed ∨ u.placesInUse < s.placesInUse →
         exec (.write i t a size hint data) s = .next u.judge) ∧
       (¬ newHead → ¬ headSealed → ¬ u.placesInUse < s.placesInUse →
         exec (.write i t a size hint data) s = .next u)) ∧
  (∀ (s : State) (i : Initiator) (t : Tag) (a : Addr) (size : Size) (hint : Hint) (data : List Byte),
     let r : Request := { initiator := i, tag := t, kind := .write a size hint data }
     let c := s.regions.active.classify a hint
     s.Receives r → ¬ s.ShutOut i (lineOf a) → ¬ s.OwnsLine i (lineOf a) →
     (c.cls = .posted ∨ c.cls = .merge ∧ ∀ e ∈ s.posting, e.isOpen = true → e.line ≠ lineOf a) →
       (16 ≤ s.posting.length →
         exec (.write i t a size hint data) s = .next (s.settled ((s.lookedUp r).refuseRetry r .queueFull))) ∧
       (s.posting.length < 16 → s.ReservedFrom i .queueEntry →
         exec (.write i t a size hint data) s = .next (s.settled ((s.lookedUp r).refuseRetry r .reserved))))

/-- A WRITE of class DEVICE is taken into the Wait List, seals every OPEN entry and removes the latches it overlaps;
any WRITE to a line its sender has locked is refused PROTOCOL. -/
def Obligations.DeviceWritesAreTaken : Prop :=
  ∀ (s : State) (i : Initiator) (t : Tag) (a : Addr) (size : Size) (hint : Hint) (data : List Byte),
    let r : Request := { initiator := i, tag := t, kind := .write a size hint data }
    let c := s.regions.active.classify a hint
    s.Receives r → c.cls ≠ .blocked → ¬ s.ShutOut i (lineOf a) →
      (c.cls = .device → (s.fabric.outTags.get i).length < 4 → ¬ s.OwnsLine i (lineOf a) →
        exec (.write i t a size hint data) s =
          .next
            (State.judge
              { (s.lookedUp r).dropLatches a size with
                posting := closeWhere (fun _ => true) s.posting
                waiting := s.waiting ++ [s.waitEntry r .write c a size data []]
                fabric := s.tagTaken r })) ∧
      ((c.cls = .device → (s.fabric.outTags.get i).length < 4) → s.OwnsLine i (lineOf a) →
        exec (.write i t a size hint data) s =
          .next (s.settled ((s.lookedUp r).respond (bareResponse i t .protocol))))

/-- A LOCKED_READ at the kind step: the four refusals in their order, else the lock is formed: a FREE slot becomes
PENDING, the initiator's marker is cleared, the request is taken into the Wait List, OPEN entries are sealed and its
initiator's latches for the words it covers are removed. -/
def Obligations.LockedReadsFormLocks : Prop :=
  ∀ (s : State) (i : Initiator) (t : Tag) (a : Addr) (size : Size),
    let r : Request := { initiator := i, tag := t, kind := .lockedRead a size }
    let c := s.regions.active.classify a .none
    let reserved : Prop := s.ReservedFrom i .lockSlot ∨ s.ReservedFrom i (.line (lineOf a))
    s.Receives r → c.cls ≠ .blocked → (s.fabric.outTags.get i).length < 4 → ¬ s.ShutOut i (lineOf a) →
      (¬ s.OwnsNone i →
        exec (.lockedRead i t a size) s =
          .next (s.settled ((s.lookedUp r).respond (bareResponse i t .protocol)))) ∧
      (s.OwnsNone i → c.locking = .forbidden →
        exec (.lockedRead i t a size) s =
          .next
            (s.settled
              ((s.lookedUp r).respond { bareResponse i t .declined with reason := some .lockingForbidden }))) ∧
      (s.OwnsNone i → c.locking = .allowed → (∀ k, s.locks.slots.get k ≠ .free) →
        exec (.lockedRead i t a size) s = .next (s.settled ((s.lookedUp r).refuseRetry r .noLockSlot))) ∧
      (s.OwnsNone i → c.locking = .allowed → (∃ k, s.locks.slots.get k = .free) → reserved →
        exec (.lockedRead i t a size) s = .next (s.settled ((s.lookedUp r).refuseRetry r .reserved))) ∧
      (s.OwnsNone i → c.locking = .allowed → (∃ k, s.locks.slots.get k = .free) → ¬ reserved →
        ∃ k, s.locks.slots.get k = .free ∧
          exec (.lockedRead i t a size) s =
            .next
              (State.judge
                { (s.lookedUp r).dropOwnLatches i a size with
                  locks :=
                    { slots := vset s.locks.slots k (.pending i (lineOf a) s.fabric.nextSeq)
                      markers := vset s.locks.markers i none }
                  posting := closeWhere (fun e => c.cls == .device || e.line == lineOf a) s.posting
                  waiting :=
                    s.waiting ++
                      [s.waitEntry r .lockedRead c a size []
                        (if c.cls = .device then []
                         else (s.posting.filter fun e => e.line == lineOf a).map (·.seq))]
                  fabric := s.tagTaken r }))

/-- A LOCKED_WRITE at the kind step, by the state of its sender's slot and marker: to the line of a HELD slot it is
taken with the slot in CLOSING; with no slot and the marker at its line it is answered LOCK_LOST and the marker is
cleared; else it is refused PROTOCOL. -/
def Obligations.LockedWritesCloseLocks : Prop :=
  ∀ (s : State) (i : Initiator) (t : Tag) (a : Addr) (size : Size) (data : List Byte),
    let r : Request := { initiator := i, tag := t, kind := .lockedWrite a size data }
    let c := s.regions.active.classify a .none
    let refused : Prop :=
      exec (.lockedWrite i t a size data) s =
        .next (s.settled ((s.lookedUp r).respond (bareResponse i t .protocol)))
    s.Receives r → c.cls ≠ .blocked → (s.fabric.outTags.get i).length < 4 → ¬ s.ShutOut i (lineOf a) →
      (∀ k line e, s.locks.slots.get k = .held i line e → (∀ j, (s.locks.slots.get j).owner = some i → j = k) →
        (line = lineOf a →
          exec (.lockedWrite i t a size data) s =
            .next
              (State.judge
                { (s.lookedUp r).dropLatches a size with
                  locks :=
                    { s.locks with
                      slots := vset s.locks.slots k (.closing i (lineOf a) s.fabric.nextSeq) }
                  posting := closeWhere (fun e => c.cls == .device || e.line == lineOf a) s.posting
                  waiting :=
                    s.waiting ++
                      [s.waitEntry r .lockedWrite c a size data
                        (if c.cls = .device then []
                         else
                           (s.posting.filter fun e =>
                             e.line == lineOf a && overlaps e.mask (byteMask a size)).map (·.seq))]
                  fabric := s.tagTaken r })) ∧
        (line ≠ lineOf a → refused)) ∧
      (∀ k line n, (s.locks.slots.get k = .pending i line n ∨ s.locks.slots.get k = .closing i line n) →
        (∀ j, (s.locks.slots.get j).owner = some i → j = k) → refused) ∧
      (s.OwnsNone i → s.locks.markers.get i = some (lineOf a) →
        exec (.lockedWrite i t a size data) s =
          .next
            (s.settled
              (State.respond
                { s.lookedUp r with locks := { s.locks with markers := vset s.locks.markers i none } }
                (bareResponse i t .lockLost)))) ∧
      (s.OwnsNone i → s.locks.markers.get i ≠ some (lineOf a) → refused)

/-- LOCK_DROP: DONE with the slot FREE for the owner of a HELD slot; LOCK_LOST with the marker cleared where there is
no slot and a marker; else PROTOCOL. -/
def Obligations.LockDropEndsALock : Prop :=
  ∀ (s : State) (i : Initiator) (t : Tag),
    let r : Request := { initiator := i, tag := t, kind := .lockDrop }
    let refused : Prop :=
      exec (.lockDrop i t) s = .next (s.settled ((s.lookedUp r).respond (bareResponse i t .protocol)))
    s.Receives r →
      (∀ k line e, s.locks.slots.get k = .held i line e → (∀ j, (s.locks.slots.get j).owner = some i → j = k) →
        exec (.lockDrop i t) s =
          .next
            (s.settled
              (State.respond
                { s.lookedUp r with locks := { s.locks with slots := vset s.locks.slots k .free } }
                (bareResponse i t .done)))) ∧
      (∀ k line n, (s.locks.slots.get k = .pending i line n ∨ s.locks.slots.get k = .closing i line n) →
        (∀ j, (s.locks.slots.get j).owner = some i → j = k) → refused) ∧
      (s.OwnsNone i → (s.locks.markers.get i).isSome = true →
        exec (.lockDrop i t) s =
          .next
            (s.settled
              (State.respond
                { s.lookedUp r with locks := { s.locks with markers := vset s.locks.markers i none } }
                (bareResponse i t .lockLost)))) ∧
      (s.OwnsNone i → s.locks.markers.get i = none → refused)

/-- A FENCE: its fence set holds the entries its initiator contributed to and its initiator's other requests; where it
is empty the FENCE is answered DONE at once, else it waits, and the initiator's OPEN entries are sealed. -/
def Obligations.FencesWaitForEarlierWork : Prop :=
  ∀ (s : State) (i : Initiator) (t : Tag),
    let r : Request := { initiator := i, tag := t, kind := .fence }
    let entries := (s.posting.filter fun e => e.contributors.contains i).map (·.seq)
    let requests := (s.waiting.filter fun w => w.initiator == i && !w.isFence).map (·.seq)
    s.Receives r → (s.fabric.outTags.get i).length < 4 →
      (entries = [] → requests = [] →
        exec (.fence i t) s =
          .next
            (State.judge
              (State.respond
                { s.lookedUp r with fabric := { s.fabric with nextSeq := s.fabric.nextSeq + 1 } }
                (bareResponse i t .done)))) ∧
      (entries ≠ [] ∨ requests ≠ [] →
        exec (.fence i t) s =
          .next
            (State.judge
              { s.lookedUp r with
                posting := closeWhere (fun e => e.contributors.contains i) s.posting
                waiting :=
                  s.waiting ++
                    [{ seq := s.fabric.nextSeq, initiator := i, tag := t, state := .waiting,
                       work := .fence entries requests }]
                fabric := s.tagTaken r }))

/-- A link reset: the link is IN_RESET and every tag free, every request is gone without an answer, held-behind marks
are cleared, a Wait List access in flight is an orphan, and captures, locks and the Progress Monitor are cleared;
entries, fault records and the rest are kept. While the link is IN_RESET it changes nothing. That the Issue Arbiter
decides at the end of every link reset, and that the kept pacing expiries are computed anew there, is the model's
deduction from R40, R52 and R72, which name the marks a link reset clears and the departures it makes; R171 does not say
it (log entry 19). -/
def Obligations.LinkResetReachesEveryBlock : Prop :=
  ∀ s : State,
    (s.fabric.link = .inReset → exec .linkReset s = .next s) ∧
    (s.fabric.link = .up →
      exec .linkReset s =
        .next
          (State.judge
            { s with
              fabric := { s.fabric with link := .inReset, outTags := Vector.replicate 8 [] }
              posting := s.posting.map fun e => { e with heldBehind := none }
              waiting := []
              port :=
                { s.port with
                  state :=
                    match s.port.state with
                    | .busy aw e => .busy { aw with requester := if aw.requester.isRequest then .orphan else aw.requester } e
                    | .ready => .ready
                    | .stalled aw => .stalled aw }
              captures := Vector.replicate 8 { capture := none, claim := none }
              locks := { slots := Vector.replicate 2 .free, markers := Vector.replicate 8 none }
              progress :=
                { counts := Vector.replicate 8 0, favoured := [], wanted := .none, reservation := none } }))

/-! ### Wait List, Issue Arbiter and Memory Port -/

/-- An access is pacing-eligible where its region's record holds no history, or the gap of its direction, with the
turnaround added where the direction differs, has passed since the last completion. The spacing is at most 270 ticks. -/
def Obligations.PacingSpacesAccesses : Prop :=
  ∀ (u : PacingUnit) (r : RegionIndex) (p : ProfileIndex) (d : Direction) (tick : Nat),
    let record := u.records.get r
    let profile := u.profiles.get p
    let gap : Nat :=
      match d with
      | .read => profile.readGap.val
      | .write => profile.writeGap.val
    let turn : Direction → Nat := fun last => if last = d then 0 else profile.turnaround.val
    (u.eligible r p d tick = true ↔
      record.last = none ∨ ∃ last, record.last = some last ∧ record.time + (gap + turn last) ≤ tick) ∧
    ∀ last, gap + turn last ≤ 270

/-- The conditions under which a Wait List request may be issued, each for the requests it applies to. -/
def Obligations.EligibilityConditions : Prop :=
  ∀ (s : State) (w : WaitEntry),
    s.eligible w = true ↔
      w.state = .waiting ∧
      ∃ a, w.work = .access a ∧
        (a.cls = .device →
          (∀ e ∈ s.posting, w.seq ≤ e.seq) ∧
            ∀ v ∈ s.waiting, ∀ b, v.work = .access b → b.cls = .device → w.seq ≤ v.seq) ∧
        (a.cls ≠ .device → a.waitsFor = []) ∧
        (∀ v ∈ s.waiting, ∀ b, v.work = .access b → lineOf b.address = lineOf a.address → w.seq ≤ v.seq) ∧
        s.pacing.eligible a.region a.profile a.kind.direction s.tick = true ∧
        (a.cls = .device → a.kind.direction = .read →
          s.placesInUse < 8 ∨
            a.kind = .read ∧ a.size = .b4 ∧ a.captureMode = .split ∧
              ∃ k c, s.holdsCapture k c ∧ c.splitFor w.initiator (wordOf a.address) = true)

/-- The decision of the Issue Arbiter: a head that is drain-eligible and pressed, else the oldest eligible request,
else a head that is drain-eligible, else nothing; and none while the port is not READY. -/
def Obligations.ArbiterGrantsInOrder : Prop :=
  ∀ s : State,
    let drains : PostingEntry → Prop := fun e =>
      e.state = .sealed ∧ e.heldBehind = none ∧ s.pacing.eligible e.region e.profile .write s.tick = true
    let pressed : PostingEntry → Prop := fun e =>
      s.mgmt.limits.highWater ≤ s.posting.length ∨ e.overdue = true
    let oldest : WaitEntry → Prop := fun w =>
      w ∈ s.waiting ∧ s.eligible w = true ∧ ∀ v ∈ s.waiting, s.eligible v = true → w.seq ≤ v.seq
    (s.port.state ≠ .ready → s.arbitrate = s) ∧
    (s.port.state = .ready → s.waiting.Pairwise (fun v w => v.seq < w.seq) →
      (∀ e rest, s.posting = e :: rest → drains e → pressed e → s.arbitrate = s.issueHead e) ∧
      (∀ w, (∀ e rest, s.posting = e :: rest → ¬ (drains e ∧ pressed e)) → oldest w →
        s.arbitrate = s.issueRequest w) ∧
      (∀ e rest, s.posting = e :: rest → drains e → (∀ w ∈ s.waiting, s.eligible w = false) →
        s.arbitrate = s.issueHead e) ∧
      ((∀ e rest, s.posting = e :: rest → ¬ drains e) → (∀ w ∈ s.waiting, s.eligible w = false) → s.arbitrate = s))

/-- The issue of the head: one 32-byte masked write with the counter's number; the entry is ISSUED, the port BUSY with
the head and its memory timer started. The issue of a request: its own access, or for a split read an 8-byte READ of
its word; the request is ISSUED, a DEVICE read claims a place (that of its own SPLIT capture for the word, or a free
one), and the port is BUSY with the request. The bytes of an access frame are the number, operation and size code in the
first, the address, the byte mask, and for a WRITE the data, the least significant byte first. These are the model's own:
the record of the accesses presented (log entry 5), the bytes that have still to leave on MQ_D (log entry 6), and that a
frame issued while bytes of an earlier one are still leaving follows them (the model's choice: log entry 20). -/
def Obligations.HeadAndRequestsAreIssued : Prop :=
  (∀ a : Access,
     let operationBit : Nat :=
       match a.operation with
       | .read => 0
       | .write => 1
     let sizeBits : Nat :=
       match a.size with
       | .b1 => 1
       | .b2 => 2
       | .b4 => 3
       | .b8 => 4
       | .b32 => 5
     a.frame =
       [BitVec.ofNat 8 (a.number.val + 16 * operationBit + 32 * sizeBits), BitVec.ofNat 8 a.address.toNat,
         BitVec.ofNat 8 (a.address.toNat / 2 ^ 8), BitVec.ofNat 8 (a.address.toNat / 2 ^ 16),
         BitVec.ofNat 8 (a.address.toNat / 2 ^ 24), BitVec.ofNat 8 (a.address.toNat / 2 ^ 32),
         BitVec.ofNat 8 a.mask.toNat, BitVec.ofNat 8 (a.mask.toNat / 2 ^ 8), BitVec.ofNat 8 (a.mask.toNat / 2 ^ 16),
         BitVec.ofNat 8 (a.mask.toNat / 2 ^ 24)] ++
         (match a.operation with
          | .read => []
          | .write => a.data)) ∧
  (∀ (s : State) (e : PostingEntry) (rest : List PostingEntry), s.posting = e :: rest →
     let access : Access :=
       { number := s.port.counter, operation := .write, address := e.line, size := .b32, mask := e.mask, data := e.data }
     s.issueHead e =
       { s with
         posting := { e with state := .issued } :: rest
         port :=
           { state :=
               .busy { number := s.port.counter, operation := .write, region := e.region, requester := .head }
                 (s.tick + s.mgmt.limits.memoryTimeout)
             counter := s.port.counter + 1
             accesses := s.port.accesses ++ [access]
             mqOut := s.port.mqOut ++ access.frame } }) ∧
  (∀ (s : State) (w : WaitEntry) (a : WaitAccess), w ∈ s.waiting → w.work = .access a →
     (∀ v ∈ s.waiting, v.seq = w.seq → v = w) →
     let splits : Prop := a.kind = .read ∧ a.size = .b4 ∧ a.cls = .device ∧ a.captureMode = .split
     let deviceRead : Prop := a.kind.direction = .read ∧ a.cls = .device
     ∀ access : Access,
       (splits →
         access =
           { number := s.port.counter, operation := .read, address := wordOf a.address, size := .b8,
             mask := byteMask (wordOf a.address) .b8, data := [] }) →
       (¬ splits →
         access =
           { number := s.port.counter, operation := a.kind.direction, address := a.address, size := a.size,
             mask := byteMask a.address a.size, data := a.data }) →
       let issued : Vector Place 8 → State := fun captures =>
         { s with
           waiting :=
             s.waiting.map fun v =>
               if v.seq = w.seq then
                 { w with state := .issued, work := .access { a with claimed := a.isDeviceRead } }
               else v
           captures := captures
           port :=
             { state :=
                 .busy
                   { number := s.port.counter, operation := access.operation, region := a.region,
                     requester := .request w.seq }
                   (s.tick + s.mgmt.limits.memoryTimeout)
               counter := s.port.counter + 1
               accesses := s.port.accesses ++ [access]
               mqOut := s.port.mqOut ++ access.frame } }
       let claimed : Fin 8 → Vector Place 8 := fun k =>
         vset s.captures k { s.captures.get k with claim := some w.seq }
       (¬ deviceRead → s.issueRequest w = issued s.captures) ∧
       (∀ k c, splits → s.holdsCapture k c → c.splitFor w.initiator (wordOf a.address) = true →
         (∀ j d, s.holdsCapture j d → d.splitFor w.initiator (wordOf a.address) = true → j = k) →
         s.issueRequest w = issued (claimed k)) ∧
       (deviceRead →
         (splits → ∀ j d, s.holdsCapture j d → d.splitFor w.initiator (wordOf a.address) = false) →
         (∃ k, s.captures.get k = { capture := none, claim := none }) →
         ∃ k, s.captures.get k = { capture := none, claim := none } ∧ s.issueRequest w = issued (claimed k)))

/-- The access number counter changes only at an issue, of which a command makes at most one: the access takes its
value and it rises by 1, wrapping from 15 to 0; a power-on reset, which needs a tick of REFCLK, makes it 0. -/
def Obligations.AccessNumbersCountIssues : Prop :=
  (∀ (c : Instr) (s t : State), exec c s = .next t → c ≠ .powerOnReset ∨ s.pins.refclkRunning = false →
    (t.port.counter = s.port.counter ∧ t.port.accesses = s.port.accesses) ∨
      (t.port.counter.val = (s.port.counter.val + 1) % 16 ∧
        ∃ access, t.port.accesses = s.port.accesses ++ [access] ∧ access.number = s.port.counter)) ∧
  ∀ s t : State, s.pins.refclkRunning = true → exec .powerOnReset s = .next t → t.port.counter = 0

/-- The pace record of a region changes only at a completion of an awaited access of that region, taken in BUSY or in
STALLED, or where all are cleared: by COMMIT, SOFT_RESET or a power-on reset. After a decision of the Issue Arbiter a
pacing expiry is kept for each candidate, the head that is not ISSUED or a WAITING request, whose spacing ends at a tick
still to come, or at one whose kept expiry is still to be taken, and no other is kept; beside the kept expiries a decision leaves what the arbiter
leaves. -/
def Obligations.PaceRecordsAndKeptExpiries : Prop :=
  (∀ (c : Instr) (s t : State), exec c s = .next t →
    t.pacing.records = s.pacing.records ∨
    (∃ head data aw, c = .completion head data ∧
      ((∃ e, s.port.state = .busy aw e) ∨ s.port.state = .stalled aw) ∧ aw.number = completionNumber head ∧
      t.pacing.records = vset s.pacing.records aw.region { last := some aw.operation, time := s.tick }) ∨
    ((c = .powerOnReset ∨ s.AtCommand ∧ (mosiByte c = some 0x13 ∨ mosiByte c = some 0x5A)) ∧
      ∀ r, t.pacing.records.get r = { last := none, time := 0 })) ∧
  ∀ (s : State) (k : KeptExpiry),
    let t := s.arbitrate
    let judged : RegionIndex → ProfileIndex → Direction → Prop := fun r p d =>
      (∃ e rest, t.posting = e :: rest ∧ e.state ≠ .issued ∧ k.candidate = .head ∧ r = e.region ∧ p = e.profile ∧
        d = .write) ∨
      ∃ w ∈ t.waiting, ∃ a, w.state = .waiting ∧ w.work = .access a ∧ k.candidate = .request w.seq ∧ r = a.region ∧
        p = a.profile ∧ d = a.kind.direction
    s.judge = { t with pacing := { s.pacing with kept := s.judge.pacing.kept } } ∧
    (k ∈ s.judge.pacing.kept ↔
      ∃ p d n, judged k.region p d ∧ s.pacing.spacing k.region p d = some n ∧
        k.tick = (s.pacing.records.get k.region).time + n ∧ (s.tick < k.tick ∨ k ∈ s.pacing.kept))

/-- The departure of an entry or a request: it leaves every waits-for and fence set that holds it, and each FENCE
whose set it empties is answered DONE and leaves with its tag, beside the answers already due, in an order that is not
fixed. Each answer passes through the Progress Monitor, in the order they leave in. (The free order: log entry 4.) -/
def Obligations.DeparturesReleaseWhatWaits : Prop :=
  ∀ (s : State) (seq : Nat) (answers : List Response),
    let done : List WaitEntry :=
      s.waiting.filter fun w =>
        match w.work with
        | .access _ => false
        | .fence entries requests =>
          (entries.contains seq || requests.contains seq) && (entries ++ requests).all (· == seq)
    let released : WaitEntry → WaitEntry := fun w =>
      match w.work with
      | .access a => { w with work := .access { a with waitsFor := a.waitsFor.filter (· ≠ seq) } }
      | .fence entries requests =>
        { w with work := .fence (entries.filter (· ≠ seq)) (requests.filter (· ≠ seq)) }
    ∃ (sent : List Response) (tags : Vector (List Tag) 8) (n : Nat),
      sent.Perm (answers ++ done.map fun w => bareResponse w.initiator w.tag .done) ∧
      (∀ i t, t ∈ tags.get i ↔ t ∈ s.fabric.outTags.get i ∧ ∀ w ∈ done, w.initiator = i → w.tag ≠ t) ∧
      s.depart seq answers =
        { s with
          waiting := (s.waiting.map released).filter fun v => !(done.any fun w => w.seq == v.seq)
          fabric := { s.fabric with outTags := tags, responses := s.fabric.responses ++ sent }
          progress :=
            sent.foldl (fun p r => p.other r.initiator (s.tick + s.mgmt.limits.reservationTimeout)) s.progress
          freeCount := n }

/-- The completion of the issued head: the pace record is updated, the port is READY, the entry leaves, an ERROR hands
over a WRITE_ERROR record, what waits for the entry is released, and the Issue Arbiter decides. -/
def Obligations.HeadCompletionRemovesTheEntry : Prop :=
  ∀ (s : State) (head : Byte) (data : List Byte) (aw : Awaited) (expiry : Nat) (e : PostingEntry)
    (rest : List PostingEntry),
    s.TakesCompletions → s.port.state = .busy aw expiry → aw.number = completionNumber head → aw.requester = .head →
    s.posting = e :: rest →
      exec (.completion head data) s =
        .next
          (State.judge
            (State.depart
              { s with
                pacing :=
                  { s.pacing with
                    records := vset s.pacing.records aw.region { last := some aw.operation, time := s.tick } }
                port := { s.port with state := .ready }
                posting := rest
                faults :=
                  if completionOk head = true then s.faults
                  else s.faults.handOver (.writeError e.contributors e.line e.mask) }
              e.seq []))

/-- The completion of an issued request: the pace record is updated, the port is READY, a claimed place is filled, a
locked request's slot moves, marks behind the request are cleared, it is answered and leaves, and the Issue Arbiter
decides. An OK READ without data, or with data of another length, is taken as ERROR. -/
def Obligations.RequestCompletionAnswersTheRequest : Prop :=
  ∀ (s : State) (head : Byte) (data : List Byte) (aw : Awaited) (expiry : Nat) (w : WaitEntry) (a : WaitAccess),
    s.TakesCompletions → s.port.state = .busy aw expiry → aw.number = completionNumber head →
    aw.requester = .request w.seq → aw.operation = a.kind.direction → w ∈ s.waiting → w.work = .access a →
    (∀ v ∈ s.waiting, v.seq = w.seq → v = w) →
    let splits : Prop := a.kind = .read ∧ a.size = .b4 ∧ a.cls = .device ∧ a.captureMode = .split
    let reads : Prop := a.kind.direction = .read
    ∀ length : Nat, (splits → length = 8) → (¬ splits → length = a.size.bytes) →
      let ok : Prop := completionOk head = true ∧ (reads → data.length = length)
      let ended : PortOutcome → Response → State := fun o answer =>
        State.judge
          (State.depart
            { (if a.claimed = true then s.fillPlace w a o.captureResult o.data else s) with
              pacing :=
                { s.pacing with
                  records := vset s.pacing.records aw.region { last := some aw.operation, time := s.tick } }
              port := { s.port with state := .ready }
              locks := s.locks.outcome w.seq o.isOk (s.tick + s.mgmt.limits.lockTimeout)
              posting :=
                s.posting.map fun e => if e.heldBehind = some w.seq then { e with heldBehind := none } else e
              waiting := s.waiting.filter fun v => v.seq ≠ w.seq
              fabric :=
                { s.fabric with
                  outTags :=
                    vset s.fabric.outTags w.initiator
                      ((s.fabric.outTags.get w.initiator).filter fun t => t ≠ w.tag) } }
            w.seq [answer])
      (ok → reads →
        exec (.completion head data) s =
          .next
            (ended (.ok data)
              { bareResponse w.initiator w.tag .done with
                source := some .memory
                data := if a.isSplitRead = true then halfOf data a.address else data })) ∧
      (ok → ¬ reads →
        exec (.completion head data) s = .next (ended (.ok []) (bareResponse w.initiator w.tag .done))) ∧
      (¬ ok → exec (.completion head data) s = .next (ended .error (bareResponse w.initiator w.tag .portError)))

/-- The outcome of a DEVICE read fills the place it claimed: a SPLIT capture of the word for a split read, with its
tag in its half, else a REPLAY capture; the claim ends and the retention timer starts. The outcome of a locked request
moves its slot: a PENDING one to HELD with its timer started where the read completed OK, else to FREE; a CLOSING one
to FREE. No marker is set. The outcome of a request no slot waits for leaves the Lock Unit as it is. -/
def Obligations.OutcomesFillPlacesAndMoveSlots : Prop :=
  (∀ (s : State) (w : WaitEntry) (a : WaitAccess) (result : CaptureResult) (data : List Byte) (k : Fin 8),
     (s.captures.get k).claim = some w.seq → (∀ j, (s.captures.get j).claim = some w.seq → j = k) →
     let splits : Prop := a.kind = .read ∧ a.size = .b4 ∧ a.cls = .device ∧ a.captureMode = .split
     ∀ key : CaptureKey,
       (splits → a.address.toNat % 8 < 4 → key = .split (wordOf a.address) (some w.tag) none) →
       (splits → 4 ≤ a.address.toNat % 8 → key = .split (wordOf a.address) none (some w.tag)) →
       (¬ splits → key = .replay w.tag a.address a.size) →
         s.fillPlace w a result data =
           { s with
             captures :=
               vset s.captures k
                 { capture :=
                     some
                       { initiator := w.initiator, key := key, result := result, data := data,
                         expiry := s.tick + s.mgmt.limits.captureRetention }
                   claim := none } }) ∧
  (∀ (u : LockUnit) (k : Fin 2) (o : Initiator) (line : Addr) (n : Nat) (ok : Bool) (expiry : Nat),
     (∀ j, (u.slots.get j).request = some n → j = k) →
     (u.slots.get k = .pending o line n →
       u.outcome n ok expiry =
         { u with slots := vset u.slots k (if ok = true then .held o line expiry else .free) }) ∧
     (u.slots.get k = .closing o line n → u.outcome n ok expiry = { u with slots := vset u.slots k .free })) ∧
  (∀ (u : LockUnit) (n : Nat) (ok : Bool) (expiry : Nat), (∀ j, (u.slots.get j).request ≠ some n) →
     u.outcome n ok expiry = u)

/-- In STALLED the completion of the awaited access updates the pace record, is discarded with a LATE_COMPLETION
record and makes the port READY, and the Issue Arbiter decides. A completion whose number is not awaited is discarded
with a LATE_COMPLETION record carrying its number, in every state of the port, and changes nothing else. -/
def Obligations.LateCompletionsAreDiscarded : Prop :=
  (∀ (s : State) (head : Byte) (data : List Byte) (aw : Awaited),
     s.TakesCompletions → s.port.state = .stalled aw → aw.number = completionNumber head →
       exec (.completion head data) s =
         .next
           (State.judge
             { s with
               pacing :=
                 { s.pacing with
                   records := vset s.pacing.records aw.region { last := some aw.operation, time := s.tick } }
               faults := s.faults.handOver (.lateCompletion aw.number)
               port := { s.port with state := .ready } })) ∧
  (∀ (s : State) (head : Byte) (data : List Byte),
     s.TakesCompletions →
     (∀ aw, (s.port.state = .stalled aw ∨ ∃ e, s.port.state = .busy aw e) → aw.number ≠ completionNumber head) →
       exec (.completion head data) s =
         .next { s with faults := s.faults.handOver (.lateCompletion (completionNumber head)) })

/-- An orphan's completion in BUSY updates the pace record and makes the port READY without a record; its timeout
makes the port STALLED without a record or a response. An expiry comes about where time can pass to it (log entry 2). -/
def Obligations.OrphansEndAtThePortAlone : Prop :=
  ∀ (s : State) (aw : Awaited) (expiry : Nat), s.port.state = .busy aw expiry → aw.requester = .orphan →
    (∀ (head : Byte) (data : List Byte), s.TakesCompletions → aw.number = completionNumber head →
      exec (.completion head data) s =
        .next
          (State.judge
            { s with
              pacing :=
                { s.pacing with
                  records := vset s.pacing.records aw.region { last := some aw.operation, time := s.tick } }
              port := { s.port with state := .ready } })) ∧
    (s.CanReach expiry →
      exec .memoryTimerExpiry s =
        .next
          (State.judge
            { s.atTick expiry with
              port := { (s.atTick expiry).port with state := .stalled { aw with requester := .none } } }))

/-- The memory timer expires: the port is STALLED with the awaited record kept but for its requester; the issued head
leaves with a WRITE_TIMEOUT record; an issued request is answered PORT_TIMEOUT with its capture and its lock slot as
an outcome. An expiry comes about where time can pass to it (log entry 2). -/
def Obligations.MemoryTimeoutStallsThePort : Prop :=
  ∀ (s : State) (aw : Awaited) (expiry : Nat), s.port.state = .busy aw expiry → s.CanReach expiry →
    let u : State :=
      { s.atTick expiry with
        port := { (s.atTick expiry).port with state := .stalled { aw with requester := .none } } }
    (∀ e rest, aw.requester = .head → s.posting = e :: rest →
      exec .memoryTimerExpiry s =
        .next
          (State.judge
            (State.depart
              { u with
                posting := rest
                faults := s.faults.handOver (.writeTimeout e.contributors e.line e.mask) }
              e.seq []))) ∧
    ∀ (w : WaitEntry) (a : WaitAccess), aw.requester = .request w.seq → w ∈ s.waiting → w.work = .access a →
      (∀ v ∈ s.waiting, v.seq = w.seq → v = w) →
      exec .memoryTimerExpiry s =
        .next
          (State.judge
            (State.depart
              { (if a.claimed = true then u.fillPlace w a .portTimeout [] else u) with
                locks := s.locks.outcome w.seq false (u.tick + s.mgmt.limits.lockTimeout)
                posting :=
                  s.posting.map fun e => if e.heldBehind = some w.seq then { e with heldBehind := none } else e
                waiting := s.waiting.filter fun v => v.seq ≠ w.seq
                fabric :=
                  { s.fabric with
                    outTags :=
                      vset s.fabric.outTags w.initiator
                        ((s.fabric.outTags.get w.initiator).filter fun t => t ≠ w.tag) } }
              w.seq [bareResponse w.initiator w.tag .portTimeout]))

/-! ### Timers -/

/-- A merge timer expiry seals its entry and the Issue Arbiter decides; a drain timer expiry makes its entry overdue,
and the arbiter decides where it is the head. A pacing expiry: at the earliest tick kept for the region the expiries
reached are dropped, the kept ones are computed anew and the Issue Arbiter decides. An expiry comes about where time
can pass to it (log entry 2). -/
def Obligations.EntryAndPacingTimersExpire : Prop :=
  (∀ (s : State) (e : PostingEntry) (expiry : Nat), e ∈ s.posting → (∀ f ∈ s.posting, f.seq = e.seq → f = e) →
     s.CanReach expiry →
     (e.mergeExpiry = some expiry → e.state = .opened →
       exec (.mergeTimerExpiry e.seq) s =
         .next
           (State.judge
             { s.atTick expiry with
               posting :=
                 s.posting.map fun f =>
                   if f.seq = e.seq then { f with state := .sealed, mergeExpiry := none } else f })) ∧
     (e.drainExpiry = some expiry →
       let u : State :=
         { s.atTick expiry with
           posting :=
             s.posting.map fun f => if f.seq = e.seq then { f with overdue := true, drainExpiry := none } else f }
       exec (.drainTimerExpiry e.seq) s = .next (if s.posting.head? = some e then u.judge else u))) ∧
  (∀ (s : State) (r : RegionIndex) (k : KeptExpiry), k ∈ s.pacing.kept → k.region = r →
     (∀ j ∈ s.pacing.kept, j.region = r → k.tick ≤ j.tick) → s.CanReach k.tick →
       exec (.pacingExpiry r) s =
         .next
           (State.judge
             { s.atTick k.tick with
               pacing :=
                 { s.pacing with
                   kept :=
                     s.pacing.kept.filter fun j => !(j.region == r && j.tick ≤ (s.atTick k.tick).tick) } }))

/-- A retention expiry removes the capture; where that frees the place the Issue Arbiter decides. The expiry of the
reservation timer removes the head with its count and its wanted resource; the next member becomes head, wants NONE
and starts the timer. No response is sent. An expiry comes about where time can pass to it (log entry 2). -/
def Obligations.RetentionAndReservationTimersExpire : Prop :=
  (∀ (s : State) (k : Fin 8) (c : Capture), s.holdsCapture k c → s.CanReach c.expiry →
     let u : State :=
       { s.atTick c.expiry with captures := vset s.captures k { s.captures.get k with capture := none } }
     exec (.retentionTimerExpiry k) s =
       .next (if (s.captures.get k).claim = none then u.judge else u)) ∧
  (∀ (s : State) (expiry : Nat) (h : Initiator) (rest : List Initiator),
     s.progress.reservation = some expiry → s.progress.favoured = h :: rest → s.CanReach expiry →
       exec .reservationTimerExpiry s =
         .next
           { s.atTick expiry with
             progress :=
               { counts := vset s.progress.counts h 0
                 favoured := rest
                 wanted := .none
                 reservation :=
                   if rest = [] then none
                   else some ((s.atTick expiry).tick + s.mgmt.limits.reservationTimeout) } })

/-- The expiry of the lock timer of a HELD slot frees it, sets the owner's marker to its line and hands over a
LOCK_BROKEN record; no response is sent. An expiry comes about where time can pass to it (log entry 2). -/
def Obligations.LockExpiryBreaksTheLock : Prop :=
  ∀ (s : State) (k : Fin 2) (o : Initiator) (line : Addr) (expiry : Nat),
    s.locks.slots.get k = .held o line expiry → s.CanReach expiry →
      exec (.lockTimerExpiry k) s =
        .next
          { s.atTick expiry with
            locks :=
              { slots := vset s.locks.slots k .free, markers := vset s.locks.markers o (some line) }
            faults := s.faults.handOver (.lockBroken o line) }

/-! ### Fault Queue -/

/-- A fault handed over while fewer than 8 records are held is stored at the tail with the next number and an overflow
count of 0, and FAULT_N is low; while 8 are held the youngest record's overflow count rises by 1 up to 255 and nothing
else changes. -/
def Obligations.FaultsAreStoredOrCounted : Prop :=
  ∀ (q : FaultQueue) (b : FaultBody),
    (q.records.length < 8 →
      q.handOver b =
        { records := q.records ++ [{ seq := q.next, body := b, overflow := 0 }], next := q.next + 1, faultN := .low }) ∧
    ∀ (older : List FaultRecord) (youngest : FaultRecord), q.records = older ++ [youngest] → older.length = 7 →
      ∃ n : Fin 256, n.val = min 255 (youngest.overflow.val + 1) ∧
        q.handOver b = { q with records := older ++ [{ youngest with overflow := n }] }

/-! ### The laws every step keeps -/

/-- The laws hold at State.reset. -/
def Obligations.LawsHoldAtReset : Prop :=
  State.reset.faults.Sound ∧ State.reset.progress.Sound ∧ State.reset.locks.Sound ∧ State.reset.QueuesSound ∧
    State.reset.CapturesSound ∧ State.reset.LocksExclusive

/-- Every step keeps at most 8 fault records, numbered one after another, and FAULT_N low exactly while one is held. -/
def Obligations.FaultQueueLawIsKept : Prop :=
  ∀ s t : State, s.faults.Sound → step s = .next t → t.faults.Sound

/-- Every step keeps the Favoured List without repeats, and its timer running exactly while it has a head. -/
def Obligations.FavouredListLawIsKept : Prop :=
  ∀ s t : State, s.progress.Sound → step s = .next t → t.progress.Sound

/-- Every step keeps at most one slot for an initiator and for a line, and no slot beside a marker. -/
def Obligations.LockLawIsKept : Prop :=
  ∀ s t : State, s.locks.Sound → step s = .next t → t.locks.Sound

/-- Every step keeps the Posting Queue and the Wait List in order and within their limits, the outstanding tags those
of the Wait List, and what is ISSUED what the Memory Port is BUSY with. -/
def Obligations.QueueLawsAreKept : Prop :=
  ∀ s t : State, s.QueuesSound → step s = .next t → t.QueuesSound

/-- Every step keeps each (initiator, tag) pair in one capture at most, and one SPLIT capture for an initiator and a
word. -/
def Obligations.CaptureLawIsKept : Prop :=
  ∀ s t : State, s.QueuesSound → s.CapturesSound → step s = .next t → t.CapturesSound

/-- Every step keeps a locked line exclusive: a lock that is HELD or CLOSING, or whose read is issued, has no posted
data and no request of another initiator beside it. -/
def Obligations.LockExclusionIsKept : Prop :=
  ∀ s t : State, s.QueuesSound → s.locks.Sound → s.LocksExclusive → step s = .next t → t.LocksExclusive

/-- From the issue of a locked read until its lock ends, the Issue Arbiter issues no access to the line but the
owner's. -/
def Obligations.LockedLinesAreReachedByTheOwnerAlone : Prop :=
  ∀ (s : State) (k : Fin 2) (o : Initiator) (line : Addr), s.LocksExclusive →
    ((∃ e, s.locks.slots.get k = .held o line e) ∨ (∃ n, s.locks.slots.get k = .closing o line n) ∨
      ∃ n, s.locks.slots.get k = .pending o line n ∧ ∃ w ∈ s.waiting, w.seq = n ∧ w.state = .issued) →
    (∀ v w, v ∈ s.waiting → w ∈ s.waiting → v.seq = w.seq → v = w) →
      (∀ e, s.choice = some (.head e) → e.line ≠ line) ∧
      ∀ w a, s.choice = some (.request w) → w.work = .access a → lineOf a.address = line → w.initiator = o
end

