-- ==== Sys2Proof/Laws/Vectors.lean ====
section
/-! SUPPORT. What the shared operations over fixed numbers of like things, and the free order, do. -/

namespace Sys2Proof.Machine

variable {α β : Type} {n : Nat}

@[simp] theorem get_vset_self (v : Vector α n) (k : Fin n) (x : α) : (vset v k x).get k = x := by
  simp [vset, Vector.get_eq_getElem]

@[simp] theorem get_vset_of_ne (v : Vector α n) {k j : Fin n} (x : α) (h : j ≠ k) :
    (vset v k x).get j = v.get j := by
  have : k.val ≠ j.val := fun e => h (Fin.ext e.symm)
  simp [vset, Vector.get_eq_getElem, this]

theorem get_vset (v : Vector α n) (k j : Fin n) (x : α) :
    (vset v k x).get j = if j = k then x else v.get j := by
  by_cases h : j = k
  · subst h; simp
  · simp [h]

@[simp] theorem get_vmap (f : α → β) (v : Vector α n) (k : Fin n) : (vmap f v).get k = f (v.get k) := by
  simp [vmap, Vector.get_eq_getElem]

@[simp] theorem get_replicate (x : α) (k : Fin n) : (Vector.replicate n x).get k = x := by
  simp [Vector.get_eq_getElem]

theorem vfind_some {p : α → Bool} {v : Vector α n} {k : Fin n} (h : vfind p v = some k) : p (v.get k) = true := by
  simpa using List.find?_some h

theorem vfind_none {p : α → Bool} {v : Vector α n} : vfind p v = none ↔ ∀ k, p (v.get k) = false := by
  simp [vfind, List.find?_eq_none]

/-- The index found is the lowest at which the test holds. -/
theorem vfind_lowest {p : α → Bool} {v : Vector α n} {k : Fin n} (h : vfind p v = some k) (j : Fin n) (hj : j < k) :
    p (v.get j) = false := by
  obtain ⟨-, as, bs, hl, hf⟩ := List.find?_eq_some_iff_append.1 h
  have hs : (List.finRange n).Pairwise (· < ·) := List.pairwise_lt_finRange n
  rw [hl] at hs
  have hmem : j ∈ as ++ k :: bs := hl ▸ List.mem_finRange j
  simp only [List.mem_append, List.mem_cons] at hmem
  rcases hmem with h1 | rfl | h2
  · simpa using hf j h1
  · exact absurd hj (lt_irrefl _)
  · have := (List.pairwise_append.1 hs).2.1
    exact absurd ((List.pairwise_cons.1 this).1 j h2) (not_lt_of_gt hj)

theorem vfind_eq_of_unique {p : α → Bool} {v : Vector α n} {k : Fin n} (hk : p (v.get k) = true)
    (hu : ∀ j, p (v.get j) = true → j = k) : vfind p v = some k := by
  cases h : vfind p v with
  | none => exact absurd (vfind_none.1 h k) (by simp [hk])
  | some j => rw [hu j (vfind_some h)]

theorem toList_any_iff {p : α → Bool} {v : Vector α n} : v.toList.any p = true ↔ ∃ k, p (v.get k) = true := by
  simp only [List.any_eq_true]
  constructor
  · rintro ⟨x, hx, hp⟩
    obtain ⟨i, hi, rfl⟩ := List.getElem_of_mem hx
    exact ⟨⟨i, by simpa using hi⟩, by simpa [Vector.get_eq_getElem] using hp⟩
  · rintro ⟨k, hk⟩
    exact ⟨v.get k, by simp [Vector.get_eq_getElem], hk⟩

theorem toList_any_eq_false {p : α → Bool} {v : Vector α n} : v.toList.any p = false ↔ ∀ k, p (v.get k) = false := by
  rw [← Bool.not_eq_true, toList_any_iff]; simp

/-- A free order is some order of the same list. -/
theorem freeOrder_perm (k : Nat) (l : List α) : (freeOrder k l).Perm l := by
  fun_induction freeOrder k l with
  | case1 => exact .refl _
  | case2 => exact .refl _
  | case3 k x y rest ys p ih =>
    have h : (ys.take p ++ x :: ys.drop p).Perm (x :: ys) := by
      have := (List.perm_middle (a := x) (l₁ := ys.take p) (l₂ := ys.drop p))
      rwa [List.take_append_drop] at this
    exact h.trans (ih.cons x)

@[simp] theorem freeOrder_nil (k : Nat) : freeOrder k ([] : List α) = [] := rfl

@[simp] theorem freeOrder_singleton (k : Nat) (x : α) : freeOrder k [x] = [x] := rfl

@[simp] theorem length_freeOrder (k : Nat) (l : List α) : (freeOrder k l).length = l.length :=
  (freeOrder_perm k l).length_eq

/-- What is picked freely is a member of the list. -/
theorem freePick_mem {k : Nat} {l : List α} {x : α} (h : freePick k l = some x) : x ∈ l := by
  match l, h with
  | [y], h => simp_all [freePick]
  | y :: z :: rest, h =>
    simp only [freePick, Option.some.injEq] at h
    rw [← h, List.getD_eq_getElem?_getD]
    have hp : freePosition k (z :: rest).length < (y :: z :: rest).length := Nat.mod_lt _ (by simp)
    rw [List.getElem?_eq_getElem hp]
    exact List.getElem_mem hp

theorem freePick_eq_none {k : Nat} {l : List α} : freePick k l = none ↔ l = [] := by
  match l with
  | [] => simp [freePick]
  | [y] => simp [freePick]
  | y :: z :: rest => simp [freePick]

end Sys2Proof.Machine
end

