-- ==== Sys2Proof/Laws/Blocks.lean ====
section
/-! SUPPORT. The moves of the Fault Queue, the Progress Monitor and the Lock Unit keep the laws of Safety.lean; which bits
an initiator set has. -/

namespace Sys2Proof.Machine

/-- Bit n of the byte of an initiator set stands for initiator n (12.4). -/
theorem getLsbD_initiatorBits (l : List Initiator) (n : Initiator) :
    (initiatorBits l).getLsbD n.val = true ↔ n ∈ l := by
  have bits : ∀ (b : Vector Bool 8) (n : Fin 8),
      (BitVec.ofNat 8 (((List.finRange 8).map fun i => if b.get i = true then 2 ^ i.val else 0).sum)).getLsbD n.val =
        b.get n := by
    have all : ∀ (b0 b1 b2 b3 b4 b5 b6 b7 : Bool) (n : Fin 8),
        (BitVec.ofNat 8
          (((List.finRange 8).map fun i =>
            if #v[b0, b1, b2, b3, b4, b5, b6, b7].get i = true then 2 ^ i.val else 0).sum)).getLsbD n.val =
          #v[b0, b1, b2, b3, b4, b5, b6, b7].get n := by decide +kernel
    intro b n
    have hb : b = #v[b.get 0, b.get 1, b.get 2, b.get 3, b.get 4, b.get 5, b.get 6, b.get 7] := by
      ext i hi
      match i, hi with
      | 0, _ | 1, _ | 2, _ | 3, _ | 4, _ | 5, _ | 6, _ | 7, _ => rfl
    rw [hb]
    exact all _ _ _ _ _ _ _ _ n
  have h : ∀ i, (Vector.ofFn fun i : Fin 8 => decide (i ∈ l)).get i = decide (i ∈ l) := by
    intro i; simp [Vector.get_eq_getElem]
  have := bits (Vector.ofFn fun i : Fin 8 => decide (i ∈ l)) n
  simp only [h, decide_eq_true_eq] at this
  rw [initiatorBits, this, decide_eq_true_eq]

/-! ### Fault Queue -/

theorem countLostInLast_append (l : List FaultRecord) (r : FaultRecord) :
    countLostInLast (l ++ [r]) = l ++ [r.countLost] := by
  induction l with
  | nil => rfl
  | cons x l ih =>
    cases l with
    | nil => rfl
    | cons y l => simpa [countLostInLast] using ih

theorem map_seq_countLostInLast (l : List FaultRecord) :
    (countLostInLast l).map (·.seq) = l.map (·.seq) := by
  rcases List.eq_nil_or_concat l with rfl | ⟨l, r, rfl⟩
  · rfl
  · simp [countLostInLast_append, FaultRecord.countLost]

/-- The numbers of the records, from a first one on. -/
theorem FaultQueue.sound_iff (q : FaultQueue) :
    q.Sound ↔ q.records.length ≤ 8 ∧
      q.records.map (·.seq) =
        (List.range q.records.length).map (fun n => q.next - BitVec.ofNat 16 (q.records.length - n)) ∧
      q.faultN = if q.records = [] then .high else .low := by
  constructor
  · rintro ⟨h1, h2, h3⟩
    refine ⟨h1, ?_, h3⟩
    apply List.ext_getElem
    · simp
    · intro n hn hm
      simpa using h2 n (by simpa using hn)
  · rintro ⟨h1, h2, h3⟩
    refine ⟨h1, ?_, h3⟩
    intro n hn
    have := congrArg (fun l => l[n]?) h2
    simpa [hn] using this

theorem FaultQueue.Sound.handOver {q : FaultQueue} (h : q.Sound) (b : FaultBody) : (q.handOver b).Sound := by
  unfold FaultQueue.handOver
  split
  · rename_i hl
    refine ⟨by simp; omega, ?_, by simp⟩
    intro n hn
    simp only [List.length_append, List.length_singleton] at hn
    by_cases hc : n < q.records.length
    · have h2 := h.numbered n hc
      simp only [List.getElem_append_left hc, h2, List.length_append, List.length_singleton]
      have : q.records.length + 1 - n = (q.records.length - n) + 1 := by omega
      rw [this, BitVec.ofNat_add]
      generalize BitVec.ofNat 16 (q.records.length - n) = x
      generalize q.next = y
      bv_omega
    · obtain rfl : n = q.records.length := by omega
      simp only [List.getElem_append_right (Nat.le_refl _), Nat.sub_self, List.getElem_cons_zero, List.length_append,
        List.length_singleton, Nat.add_sub_cancel_left]
      generalize q.next = y
      bv_omega
  · rename_i hl
    have hlen : (countLostInLast q.records).length = q.records.length := by
      simpa using congrArg List.length (map_seq_countLostInLast q.records)
    rw [FaultQueue.sound_iff] at h ⊢
    obtain ⟨h1, h2, h3⟩ := h
    have hne : countLostInLast q.records ≠ [] := by
      intro hc; rw [hc] at hlen; simp at hlen; omega
    have hne' : q.records ≠ [] := by intro hc; rw [hc] at hl; simp at hl
    refine ⟨by simpa [hlen] using h1, ?_, ?_⟩
    · simp only [hlen, map_seq_countLostInLast]; exact h2
    · simp only [hne, if_false]; simpa [hne'] using h3

theorem FaultQueue.Sound.removeHead {q : FaultQueue} (h : q.Sound) : q.removeHead.Sound := by
  unfold FaultQueue.removeHead
  split
  · exact h
  · exact ⟨by simp, by simp, by simp⟩
  · rename_i r rest hne heq
    have h1 := h.atMost
    have h3 := h.output
    rw [heq] at h1 h3
    refine ⟨by simp at h1 ⊢; omega, ?_, ?_⟩
    · intro n hn
      have := h.numbered (n + 1) (by rw [heq]; simpa using hn)
      simp only [heq, List.getElem_cons_succ, List.length_cons, Nat.add_sub_add_right] at this
      exact this
    · have hr : rest ≠ [] := by rintro rfl; exact hne rfl
      simpa [hr] using h3

/-! ### Progress Monitor -/

theorem ProgressMonitor.Sound.dropHead {p : ProgressMonitor} (h : p.Sound) (expiry : Nat) : (p.dropHead expiry).Sound := by
  refine ⟨h.nodup.tail, ?_, fun _ => rfl⟩
  simp only [ProgressMonitor.dropHead]
  cases p.favoured.tail <;> simp

theorem ProgressMonitor.Sound.other {p : ProgressMonitor} (h : p.Sound) (i : Initiator) (expiry : Nat) :
    (p.other i expiry).Sound := by
  unfold ProgressMonitor.other
  simp only
  split
  · exact ProgressMonitor.Sound.dropHead (p := { p with counts := vset p.counts i 0 }) ⟨h.nodup, h.timer, h.wanted⟩ expiry
  · rename_i hh
    have hf : p.favoured.filter (· != i) = [] ↔ p.favoured = [] := by
      cases hp : p.favoured with
      | nil => simp
      | cons x l =>
        have : x ≠ i := by simpa [ProgressMonitor.isHead, hp] using hh
        simp [this]
    refine ⟨h.nodup.filter _, ?_, fun hn => h.wanted (hf.1 hn)⟩
    simp only [ne_eq, hf]
    exact h.timer

theorem ProgressMonitor.Sound.retry {p : ProgressMonitor} (h : p.Sound) (i : Initiator) (cause : RetryCause)
    (threshold expiry : Nat) : (p.retry i cause threshold expiry).Sound := by
  unfold ProgressMonitor.retry
  simp only
  have hn : (if threshold ≤ (countUp (p.counts.get i)).val ∧ i ∉ p.favoured then p.favoured ++ [i] else p.favoured).Nodup := by
    split
    · rename_i hj
      rw [List.nodup_append]
      exact ⟨h.nodup, by simp, by rintro a ha b hb rfl; rw [List.mem_singleton] at hb; exact hj.2 (hb ▸ ha)⟩
    · exact h.nodup
  generalize hl : (if threshold ≤ (countUp (p.counts.get i)).val ∧ i ∉ p.favoured then p.favoured ++ [i]
    else p.favoured) = l at hn ⊢
  split
  · rename_i hh
    have : l ≠ [] := by rintro rfl; simp [ProgressMonitor.isHead] at hh
    exact ⟨hn, by simp [this], fun hc => absurd hc this⟩
  · rename_i hh
    have hle : l = [] ↔ p.favoured = [] := by
      rw [← hl]
      split
      · rename_i hj
        constructor
        · intro hc; simp at hc
        · intro hc
          exfalso
          rw [if_pos hj, hc] at hl
          subst hl
          simp [ProgressMonitor.isHead] at hh
      · rfl
    exact ⟨hn, by simpa [hle] using h.timer, fun hc => h.wanted (hle.1 hc)⟩

/-! ### Lock Unit -/

/-- Freeing a slot keeps the law. -/
theorem LockUnit.Sound.putFree {u : LockUnit} (h : u.Sound) (k : Fin 2) : (u.put k .free).Sound := by
  have hg : ∀ j, (vset u.slots k .free).get j = .free ∨ (vset u.slots k .free).get j = u.slots.get j := by
    intro j; rw [get_vset]; split <;> simp
  refine ⟨?_, ?_, ?_⟩
  · intro j l o hj hl
    rcases hg j with e | e <;> rcases hg l with f | f <;> simp only [LockUnit.put, e, f] at hj hl
    all_goals first | (cases hj; done) | (cases hl; done) | exact h.owners _ _ _ hj hl
  · intro j l a hj hl
    rcases hg j with e | e <;> rcases hg l with f | f <;> simp only [LockUnit.put, e, f] at hj hl
    all_goals first | (cases hj; done) | (cases hl; done) | exact h.lines _ _ _ hj hl
  · intro j i hj
    rcases hg j with e | e <;> simp only [LockUnit.put, e] at hj
    · cases hj
    · exact h.markers _ _ hj

/-- A slot that keeps its owner and its line keeps the law. -/
theorem LockUnit.Sound.putSame {u : LockUnit} (h : u.Sound) (k : Fin 2) {l : LockSlot}
    (ho : l.owner = (u.slots.get k).owner) (hl : l.line = (u.slots.get k).line) : (u.put k l).Sound := by
  have go : ∀ j, ((vset u.slots k l).get j).owner = (u.slots.get j).owner := by
    intro j; rw [get_vset]; split
    · subst j; exact ho
    · rfl
  have gl : ∀ j, ((vset u.slots k l).get j).line = (u.slots.get j).line := by
    intro j; rw [get_vset]; split
    · subst j; exact hl
    · rfl
  exact ⟨fun j m o hj hm => h.owners j m o ((go j).symm.trans hj) ((go m).symm.trans hm),
    fun j m a hj hm => h.lines j m a ((gl j).symm.trans hj) ((gl m).symm.trans hm),
    fun j i hj => h.markers j i ((go j).symm.trans hj)⟩

/-- Clearing a marker keeps the law. -/
theorem LockUnit.Sound.markNone {u : LockUnit} (h : u.Sound) (i : Initiator) : (u.mark i none).Sound :=
  ⟨h.owners, h.lines, fun k j hj => by
    simp only [LockUnit.mark, get_vset]
    split
    · rfl
    · exact h.markers k j hj⟩

theorem LockUnit.Sound.outcome {u : LockUnit} (h : u.Sound) (seq : Nat) (ok : Bool) (expiry : Nat) :
    (u.outcome seq ok expiry).Sound := by
  unfold LockUnit.outcome
  split
  · rename_i k hk
    cases hs : u.slots.get k with
    | free => exact h.putFree k
    | pending o line n =>
      simp only [LockSlot.afterOutcome]
      split
      · exact h.putSame k (by rw [hs]; rfl) (by rw [hs]; rfl)
      · exact h.putFree k
    | held o line e => exact h.putSame k (by rw [hs]; rfl) (by rw [hs]; rfl)
    | closing o line n => exact h.putFree k
  · exact h

end Sys2Proof.Machine
end

