-- ==== Sys2Proof/Laws/State.lean ====
section
/-! SUPPORT. One lemma for each field of State after each update of one event, true by rfl, so that no proof unfolds a
record update. -/

namespace Sys2Proof.Machine.State

open Sys2Proof

variable (s : State)

@[simp] theorem send_pending (r : Response) : (s.send r).pending = s.pending := rfl
@[simp] theorem send_tick (r : Response) : (s.send r).tick = s.tick := rfl
@[simp] theorem send_pins (r : Response) : (s.send r).pins = s.pins := rfl
@[simp] theorem send_fabric (r : Response) :
    (s.send r).fabric =
      { s.fabric with responses := s.fabric.responses ++ [r] } := rfl
@[simp] theorem send_regions (r : Response) : (s.send r).regions = s.regions := rfl
@[simp] theorem send_posting (r : Response) : (s.send r).posting = s.posting := rfl
@[simp] theorem send_waiting (r : Response) : (s.send r).waiting = s.waiting := rfl
@[simp] theorem send_port (r : Response) : (s.send r).port = s.port := rfl
@[simp] theorem send_pacing (r : Response) : (s.send r).pacing = s.pacing := rfl
@[simp] theorem send_captures (r : Response) : (s.send r).captures = s.captures := rfl
@[simp] theorem send_locks (r : Response) : (s.send r).locks = s.locks := rfl
@[simp] theorem send_progress (r : Response) : (s.send r).progress = s.progress := rfl
@[simp] theorem send_faults (r : Response) : (s.send r).faults = s.faults := rfl
@[simp] theorem send_mgmt (r : Response) : (s.send r).mgmt = s.mgmt := rfl
@[simp] theorem send_freeCount (r : Response) : (s.send r).freeCount = s.freeCount := rfl

@[simp] theorem respond_pending (r : Response) : (s.respond r).pending = s.pending := rfl
@[simp] theorem respond_tick (r : Response) : (s.respond r).tick = s.tick := rfl
@[simp] theorem respond_pins (r : Response) : (s.respond r).pins = s.pins := rfl
@[simp] theorem respond_fabric (r : Response) :
    (s.respond r).fabric =
      { s.fabric with responses := s.fabric.responses ++ [r] } := rfl
@[simp] theorem respond_regions (r : Response) : (s.respond r).regions = s.regions := rfl
@[simp] theorem respond_posting (r : Response) : (s.respond r).posting = s.posting := rfl
@[simp] theorem respond_waiting (r : Response) : (s.respond r).waiting = s.waiting := rfl
@[simp] theorem respond_port (r : Response) : (s.respond r).port = s.port := rfl
@[simp] theorem respond_pacing (r : Response) : (s.respond r).pacing = s.pacing := rfl
@[simp] theorem respond_captures (r : Response) : (s.respond r).captures = s.captures := rfl
@[simp] theorem respond_locks (r : Response) : (s.respond r).locks = s.locks := rfl
@[simp] theorem respond_progress (r : Response) :
    (s.respond r).progress =
      s.progress.other r.initiator s.reservationExpiry := rfl
@[simp] theorem respond_faults (r : Response) : (s.respond r).faults = s.faults := rfl
@[simp] theorem respond_mgmt (r : Response) : (s.respond r).mgmt = s.mgmt := rfl
@[simp] theorem respond_freeCount (r : Response) : (s.respond r).freeCount = s.freeCount := rfl

@[simp] theorem refuseRetry_pending (r : Request) (c : RetryCause) : (s.refuseRetry r c).pending = s.pending := rfl
@[simp] theorem refuseRetry_tick (r : Request) (c : RetryCause) : (s.refuseRetry r c).tick = s.tick := rfl
@[simp] theorem refuseRetry_pins (r : Request) (c : RetryCause) : (s.refuseRetry r c).pins = s.pins := rfl
@[simp] theorem refuseRetry_fabric (r : Request) (c : RetryCause) :
    (s.refuseRetry r c).fabric =
      { s.fabric with responses := s.fabric.responses ++ [r.answerReason .retry c.reason] } := rfl
@[simp] theorem refuseRetry_regions (r : Request) (c : RetryCause) : (s.refuseRetry r c).regions = s.regions := rfl
@[simp] theorem refuseRetry_posting (r : Request) (c : RetryCause) : (s.refuseRetry r c).posting = s.posting := rfl
@[simp] theorem refuseRetry_waiting (r : Request) (c : RetryCause) : (s.refuseRetry r c).waiting = s.waiting := rfl
@[simp] theorem refuseRetry_port (r : Request) (c : RetryCause) : (s.refuseRetry r c).port = s.port := rfl
@[simp] theorem refuseRetry_pacing (r : Request) (c : RetryCause) : (s.refuseRetry r c).pacing = s.pacing := rfl
@[simp] theorem refuseRetry_captures (r : Request) (c : RetryCause) : (s.refuseRetry r c).captures = s.captures := rfl
@[simp] theorem refuseRetry_locks (r : Request) (c : RetryCause) : (s.refuseRetry r c).locks = s.locks := rfl
@[simp] theorem refuseRetry_progress (r : Request) (c : RetryCause) :
    (s.refuseRetry r c).progress =
      s.progress.retry r.initiator c s.mgmt.limits.retryThreshold s.reservationExpiry := rfl
@[simp] theorem refuseRetry_faults (r : Request) (c : RetryCause) : (s.refuseRetry r c).faults = s.faults := rfl
@[simp] theorem refuseRetry_mgmt (r : Request) (c : RetryCause) : (s.refuseRetry r c).mgmt = s.mgmt := rfl
@[simp] theorem refuseRetry_freeCount (r : Request) (c : RetryCause) :
    (s.refuseRetry r c).freeCount =
      s.freeCount := rfl

@[simp] theorem handOver_pending (b : FaultBody) : (s.handOver b).pending = s.pending := rfl
@[simp] theorem handOver_tick (b : FaultBody) : (s.handOver b).tick = s.tick := rfl
@[simp] theorem handOver_pins (b : FaultBody) : (s.handOver b).pins = s.pins := rfl
@[simp] theorem handOver_fabric (b : FaultBody) : (s.handOver b).fabric = s.fabric := rfl
@[simp] theorem handOver_regions (b : FaultBody) : (s.handOver b).regions = s.regions := rfl
@[simp] theorem handOver_posting (b : FaultBody) : (s.handOver b).posting = s.posting := rfl
@[simp] theorem handOver_waiting (b : FaultBody) : (s.handOver b).waiting = s.waiting := rfl
@[simp] theorem handOver_port (b : FaultBody) : (s.handOver b).port = s.port := rfl
@[simp] theorem handOver_pacing (b : FaultBody) : (s.handOver b).pacing = s.pacing := rfl
@[simp] theorem handOver_captures (b : FaultBody) : (s.handOver b).captures = s.captures := rfl
@[simp] theorem handOver_locks (b : FaultBody) : (s.handOver b).locks = s.locks := rfl
@[simp] theorem handOver_progress (b : FaultBody) : (s.handOver b).progress = s.progress := rfl
@[simp] theorem handOver_faults (b : FaultBody) : (s.handOver b).faults = s.faults.handOver b := rfl
@[simp] theorem handOver_mgmt (b : FaultBody) : (s.handOver b).mgmt = s.mgmt := rfl
@[simp] theorem handOver_freeCount (b : FaultBody) : (s.handOver b).freeCount = s.freeCount := rfl

@[simp] theorem keepPacing_pending : (s.keepPacing).pending = s.pending := rfl
@[simp] theorem keepPacing_tick : (s.keepPacing).tick = s.tick := rfl
@[simp] theorem keepPacing_pins : (s.keepPacing).pins = s.pins := rfl
@[simp] theorem keepPacing_fabric : (s.keepPacing).fabric = s.fabric := rfl
@[simp] theorem keepPacing_regions : (s.keepPacing).regions = s.regions := rfl
@[simp] theorem keepPacing_posting : (s.keepPacing).posting = s.posting := rfl
@[simp] theorem keepPacing_waiting : (s.keepPacing).waiting = s.waiting := rfl
@[simp] theorem keepPacing_port : (s.keepPacing).port = s.port := rfl
@[simp] theorem keepPacing_pacing :
    (s.keepPacing).pacing =
      { s.pacing with kept := s.paced.filterMap (s.pacing.keep s.tick) } := rfl
@[simp] theorem keepPacing_captures : (s.keepPacing).captures = s.captures := rfl
@[simp] theorem keepPacing_locks : (s.keepPacing).locks = s.locks := rfl
@[simp] theorem keepPacing_progress : (s.keepPacing).progress = s.progress := rfl
@[simp] theorem keepPacing_faults : (s.keepPacing).faults = s.faults := rfl
@[simp] theorem keepPacing_mgmt : (s.keepPacing).mgmt = s.mgmt := rfl
@[simp] theorem keepPacing_freeCount : (s.keepPacing).freeCount = s.freeCount := rfl

@[simp] theorem dropCaptures_pending (p : Capture → Bool) : (s.dropCaptures p).pending = s.pending := rfl
@[simp] theorem dropCaptures_tick (p : Capture → Bool) : (s.dropCaptures p).tick = s.tick := rfl
@[simp] theorem dropCaptures_pins (p : Capture → Bool) : (s.dropCaptures p).pins = s.pins := rfl
@[simp] theorem dropCaptures_fabric (p : Capture → Bool) : (s.dropCaptures p).fabric = s.fabric := rfl
@[simp] theorem dropCaptures_regions (p : Capture → Bool) : (s.dropCaptures p).regions = s.regions := rfl
@[simp] theorem dropCaptures_posting (p : Capture → Bool) : (s.dropCaptures p).posting = s.posting := rfl
@[simp] theorem dropCaptures_waiting (p : Capture → Bool) : (s.dropCaptures p).waiting = s.waiting := rfl
@[simp] theorem dropCaptures_port (p : Capture → Bool) : (s.dropCaptures p).port = s.port := rfl
@[simp] theorem dropCaptures_pacing (p : Capture → Bool) : (s.dropCaptures p).pacing = s.pacing := rfl
@[simp] theorem dropCaptures_captures (p : Capture → Bool) :
    (s.dropCaptures p).captures =
      vmap (Place.drop p) s.captures := rfl
@[simp] theorem dropCaptures_locks (p : Capture → Bool) : (s.dropCaptures p).locks = s.locks := rfl
@[simp] theorem dropCaptures_progress (p : Capture → Bool) : (s.dropCaptures p).progress = s.progress := rfl
@[simp] theorem dropCaptures_faults (p : Capture → Bool) : (s.dropCaptures p).faults = s.faults := rfl
@[simp] theorem dropCaptures_mgmt (p : Capture → Bool) : (s.dropCaptures p).mgmt = s.mgmt := rfl
@[simp] theorem dropCaptures_freeCount (p : Capture → Bool) : (s.dropCaptures p).freeCount = s.freeCount := rfl

@[simp] theorem putCapture_pending (k : Fin 8) (c : Capture) : (s.putCapture k c).pending = s.pending := rfl
@[simp] theorem putCapture_tick (k : Fin 8) (c : Capture) : (s.putCapture k c).tick = s.tick := rfl
@[simp] theorem putCapture_pins (k : Fin 8) (c : Capture) : (s.putCapture k c).pins = s.pins := rfl
@[simp] theorem putCapture_fabric (k : Fin 8) (c : Capture) : (s.putCapture k c).fabric = s.fabric := rfl
@[simp] theorem putCapture_regions (k : Fin 8) (c : Capture) : (s.putCapture k c).regions = s.regions := rfl
@[simp] theorem putCapture_posting (k : Fin 8) (c : Capture) : (s.putCapture k c).posting = s.posting := rfl
@[simp] theorem putCapture_waiting (k : Fin 8) (c : Capture) : (s.putCapture k c).waiting = s.waiting := rfl
@[simp] theorem putCapture_port (k : Fin 8) (c : Capture) : (s.putCapture k c).port = s.port := rfl
@[simp] theorem putCapture_pacing (k : Fin 8) (c : Capture) : (s.putCapture k c).pacing = s.pacing := rfl
@[simp] theorem putCapture_captures (k : Fin 8) (c : Capture) :
    (s.putCapture k c).captures =
      vset s.captures k { s.captures.get k with capture := some c } := rfl
@[simp] theorem putCapture_locks (k : Fin 8) (c : Capture) : (s.putCapture k c).locks = s.locks := rfl
@[simp] theorem putCapture_progress (k : Fin 8) (c : Capture) : (s.putCapture k c).progress = s.progress := rfl
@[simp] theorem putCapture_faults (k : Fin 8) (c : Capture) : (s.putCapture k c).faults = s.faults := rfl
@[simp] theorem putCapture_mgmt (k : Fin 8) (c : Capture) : (s.putCapture k c).mgmt = s.mgmt := rfl
@[simp] theorem putCapture_freeCount (k : Fin 8) (c : Capture) : (s.putCapture k c).freeCount = s.freeCount := rfl

@[simp] theorem clearCapture_pending (k : Fin 8) : (s.clearCapture k).pending = s.pending := rfl
@[simp] theorem clearCapture_tick (k : Fin 8) : (s.clearCapture k).tick = s.tick := rfl
@[simp] theorem clearCapture_pins (k : Fin 8) : (s.clearCapture k).pins = s.pins := rfl
@[simp] theorem clearCapture_fabric (k : Fin 8) : (s.clearCapture k).fabric = s.fabric := rfl
@[simp] theorem clearCapture_regions (k : Fin 8) : (s.clearCapture k).regions = s.regions := rfl
@[simp] theorem clearCapture_posting (k : Fin 8) : (s.clearCapture k).posting = s.posting := rfl
@[simp] theorem clearCapture_waiting (k : Fin 8) : (s.clearCapture k).waiting = s.waiting := rfl
@[simp] theorem clearCapture_port (k : Fin 8) : (s.clearCapture k).port = s.port := rfl
@[simp] theorem clearCapture_pacing (k : Fin 8) : (s.clearCapture k).pacing = s.pacing := rfl
@[simp] theorem clearCapture_captures (k : Fin 8) :
    (s.clearCapture k).captures =
      vset s.captures k { s.captures.get k with capture := none } := rfl
@[simp] theorem clearCapture_locks (k : Fin 8) : (s.clearCapture k).locks = s.locks := rfl
@[simp] theorem clearCapture_progress (k : Fin 8) : (s.clearCapture k).progress = s.progress := rfl
@[simp] theorem clearCapture_faults (k : Fin 8) : (s.clearCapture k).faults = s.faults := rfl
@[simp] theorem clearCapture_mgmt (k : Fin 8) : (s.clearCapture k).mgmt = s.mgmt := rfl
@[simp] theorem clearCapture_freeCount (k : Fin 8) : (s.clearCapture k).freeCount = s.freeCount := rfl

@[simp] theorem sealWhere_pending (p : PostingEntry → Bool) : (s.sealWhere p).pending = s.pending := rfl
@[simp] theorem sealWhere_tick (p : PostingEntry → Bool) : (s.sealWhere p).tick = s.tick := rfl
@[simp] theorem sealWhere_pins (p : PostingEntry → Bool) : (s.sealWhere p).pins = s.pins := rfl
@[simp] theorem sealWhere_fabric (p : PostingEntry → Bool) : (s.sealWhere p).fabric = s.fabric := rfl
@[simp] theorem sealWhere_regions (p : PostingEntry → Bool) : (s.sealWhere p).regions = s.regions := rfl
@[simp] theorem sealWhere_posting (p : PostingEntry → Bool) : (s.sealWhere p).posting = closeWhere p s.posting := rfl
@[simp] theorem sealWhere_waiting (p : PostingEntry → Bool) : (s.sealWhere p).waiting = s.waiting := rfl
@[simp] theorem sealWhere_port (p : PostingEntry → Bool) : (s.sealWhere p).port = s.port := rfl
@[simp] theorem sealWhere_pacing (p : PostingEntry → Bool) : (s.sealWhere p).pacing = s.pacing := rfl
@[simp] theorem sealWhere_captures (p : PostingEntry → Bool) : (s.sealWhere p).captures = s.captures := rfl
@[simp] theorem sealWhere_locks (p : PostingEntry → Bool) : (s.sealWhere p).locks = s.locks := rfl
@[simp] theorem sealWhere_progress (p : PostingEntry → Bool) : (s.sealWhere p).progress = s.progress := rfl
@[simp] theorem sealWhere_faults (p : PostingEntry → Bool) : (s.sealWhere p).faults = s.faults := rfl
@[simp] theorem sealWhere_mgmt (p : PostingEntry → Bool) : (s.sealWhere p).mgmt = s.mgmt := rfl
@[simp] theorem sealWhere_freeCount (p : PostingEntry → Bool) : (s.sealWhere p).freeCount = s.freeCount := rfl

@[simp] theorem takeSeq_pending : (s.takeSeq).pending = s.pending := rfl
@[simp] theorem takeSeq_tick : (s.takeSeq).tick = s.tick := rfl
@[simp] theorem takeSeq_pins : (s.takeSeq).pins = s.pins := rfl
@[simp] theorem takeSeq_fabric : (s.takeSeq).fabric = { s.fabric with nextSeq := s.fabric.nextSeq + 1 } := rfl
@[simp] theorem takeSeq_regions : (s.takeSeq).regions = s.regions := rfl
@[simp] theorem takeSeq_posting : (s.takeSeq).posting = s.posting := rfl
@[simp] theorem takeSeq_waiting : (s.takeSeq).waiting = s.waiting := rfl
@[simp] theorem takeSeq_port : (s.takeSeq).port = s.port := rfl
@[simp] theorem takeSeq_pacing : (s.takeSeq).pacing = s.pacing := rfl
@[simp] theorem takeSeq_captures : (s.takeSeq).captures = s.captures := rfl
@[simp] theorem takeSeq_locks : (s.takeSeq).locks = s.locks := rfl
@[simp] theorem takeSeq_progress : (s.takeSeq).progress = s.progress := rfl
@[simp] theorem takeSeq_faults : (s.takeSeq).faults = s.faults := rfl
@[simp] theorem takeSeq_mgmt : (s.takeSeq).mgmt = s.mgmt := rfl
@[simp] theorem takeSeq_freeCount : (s.takeSeq).freeCount = s.freeCount := rfl

@[simp] theorem markIssued_pending (n : Nat) : (s.markIssued n).pending = s.pending := rfl
@[simp] theorem markIssued_tick (n : Nat) : (s.markIssued n).tick = s.tick := rfl
@[simp] theorem markIssued_pins (n : Nat) : (s.markIssued n).pins = s.pins := rfl
@[simp] theorem markIssued_fabric (n : Nat) : (s.markIssued n).fabric = s.fabric := rfl
@[simp] theorem markIssued_regions (n : Nat) : (s.markIssued n).regions = s.regions := rfl
@[simp] theorem markIssued_posting (n : Nat) : (s.markIssued n).posting = s.posting := rfl
@[simp] theorem markIssued_port (n : Nat) : (s.markIssued n).port = s.port := rfl
@[simp] theorem markIssued_pacing (n : Nat) : (s.markIssued n).pacing = s.pacing := rfl
@[simp] theorem markIssued_captures (n : Nat) : (s.markIssued n).captures = s.captures := rfl
@[simp] theorem markIssued_locks (n : Nat) : (s.markIssued n).locks = s.locks := rfl
@[simp] theorem markIssued_progress (n : Nat) : (s.markIssued n).progress = s.progress := rfl
@[simp] theorem markIssued_faults (n : Nat) : (s.markIssued n).faults = s.faults := rfl
@[simp] theorem markIssued_mgmt (n : Nat) : (s.markIssued n).mgmt = s.mgmt := rfl
@[simp] theorem markIssued_freeCount (n : Nat) : (s.markIssued n).freeCount = s.freeCount := rfl

@[simp] theorem present_pending (d : Direction) (a : Addr) (z : Size) (m : Mask) (b : List Byte) (g : RegionIndex) (q : Requester) :
    (s.present d a z m b g q).pending =
      s.pending := rfl
@[simp] theorem present_tick (d : Direction) (a : Addr) (z : Size) (m : Mask) (b : List Byte) (g : RegionIndex) (q : Requester) :
    (s.present d a z m b g q).tick =
      s.tick := rfl
@[simp] theorem present_pins (d : Direction) (a : Addr) (z : Size) (m : Mask) (b : List Byte) (g : RegionIndex) (q : Requester) :
    (s.present d a z m b g q).pins =
      s.pins := rfl
@[simp] theorem present_fabric (d : Direction) (a : Addr) (z : Size) (m : Mask) (b : List Byte) (g : RegionIndex) (q : Requester) :
    (s.present d a z m b g q).fabric =
      s.fabric := rfl
@[simp] theorem present_regions (d : Direction) (a : Addr) (z : Size) (m : Mask) (b : List Byte) (g : RegionIndex) (q : Requester) :
    (s.present d a z m b g q).regions =
      s.regions := rfl
@[simp] theorem present_posting (d : Direction) (a : Addr) (z : Size) (m : Mask) (b : List Byte) (g : RegionIndex) (q : Requester) :
    (s.present d a z m b g q).posting =
      s.posting := rfl
@[simp] theorem present_waiting (d : Direction) (a : Addr) (z : Size) (m : Mask) (b : List Byte) (g : RegionIndex) (q : Requester) :
    (s.present d a z m b g q).waiting =
      s.waiting := rfl
@[simp] theorem present_pacing (d : Direction) (a : Addr) (z : Size) (m : Mask) (b : List Byte) (g : RegionIndex) (q : Requester) :
    (s.present d a z m b g q).pacing =
      s.pacing := rfl
@[simp] theorem present_captures (d : Direction) (a : Addr) (z : Size) (m : Mask) (b : List Byte) (g : RegionIndex) (q : Requester) :
    (s.present d a z m b g q).captures =
      s.captures := rfl
@[simp] theorem present_locks (d : Direction) (a : Addr) (z : Size) (m : Mask) (b : List Byte) (g : RegionIndex) (q : Requester) :
    (s.present d a z m b g q).locks =
      s.locks := rfl
@[simp] theorem present_progress (d : Direction) (a : Addr) (z : Size) (m : Mask) (b : List Byte) (g : RegionIndex) (q : Requester) :
    (s.present d a z m b g q).progress =
      s.progress := rfl
@[simp] theorem present_faults (d : Direction) (a : Addr) (z : Size) (m : Mask) (b : List Byte) (g : RegionIndex) (q : Requester) :
    (s.present d a z m b g q).faults =
      s.faults := rfl
@[simp] theorem present_mgmt (d : Direction) (a : Addr) (z : Size) (m : Mask) (b : List Byte) (g : RegionIndex) (q : Requester) :
    (s.present d a z m b g q).mgmt =
      s.mgmt := rfl
@[simp] theorem present_freeCount (d : Direction) (a : Addr) (z : Size) (m : Mask) (b : List Byte) (g : RegionIndex) (q : Requester) :
    (s.present d a z m b g q).freeCount =
      s.freeCount := rfl

@[simp] theorem issueHead_pending (e : PostingEntry) : (s.issueHead e).pending = s.pending := rfl
@[simp] theorem issueHead_tick (e : PostingEntry) : (s.issueHead e).tick = s.tick := rfl
@[simp] theorem issueHead_pins (e : PostingEntry) : (s.issueHead e).pins = s.pins := rfl
@[simp] theorem issueHead_fabric (e : PostingEntry) : (s.issueHead e).fabric = s.fabric := rfl
@[simp] theorem issueHead_regions (e : PostingEntry) : (s.issueHead e).regions = s.regions := rfl
@[simp] theorem issueHead_waiting (e : PostingEntry) : (s.issueHead e).waiting = s.waiting := rfl
@[simp] theorem issueHead_pacing (e : PostingEntry) : (s.issueHead e).pacing = s.pacing := rfl
@[simp] theorem issueHead_captures (e : PostingEntry) : (s.issueHead e).captures = s.captures := rfl
@[simp] theorem issueHead_locks (e : PostingEntry) : (s.issueHead e).locks = s.locks := rfl
@[simp] theorem issueHead_progress (e : PostingEntry) : (s.issueHead e).progress = s.progress := rfl
@[simp] theorem issueHead_faults (e : PostingEntry) : (s.issueHead e).faults = s.faults := rfl
@[simp] theorem issueHead_mgmt (e : PostingEntry) : (s.issueHead e).mgmt = s.mgmt := rfl
@[simp] theorem issueHead_freeCount (e : PostingEntry) : (s.issueHead e).freeCount = s.freeCount := rfl

@[simp] theorem freeTag_pending (i : Initiator) (t : Tag) : (s.freeTag i t).pending = s.pending := rfl
@[simp] theorem freeTag_tick (i : Initiator) (t : Tag) : (s.freeTag i t).tick = s.tick := rfl
@[simp] theorem freeTag_pins (i : Initiator) (t : Tag) : (s.freeTag i t).pins = s.pins := rfl
@[simp] theorem freeTag_fabric (i : Initiator) (t : Tag) :
    (s.freeTag i t).fabric =
      { s.fabric with outTags := vset s.fabric.outTags i ((s.fabric.outTags.get i).filter (· != t)) } := rfl
@[simp] theorem freeTag_regions (i : Initiator) (t : Tag) : (s.freeTag i t).regions = s.regions := rfl
@[simp] theorem freeTag_posting (i : Initiator) (t : Tag) : (s.freeTag i t).posting = s.posting := rfl
@[simp] theorem freeTag_waiting (i : Initiator) (t : Tag) : (s.freeTag i t).waiting = s.waiting := rfl
@[simp] theorem freeTag_port (i : Initiator) (t : Tag) : (s.freeTag i t).port = s.port := rfl
@[simp] theorem freeTag_pacing (i : Initiator) (t : Tag) : (s.freeTag i t).pacing = s.pacing := rfl
@[simp] theorem freeTag_captures (i : Initiator) (t : Tag) : (s.freeTag i t).captures = s.captures := rfl
@[simp] theorem freeTag_locks (i : Initiator) (t : Tag) : (s.freeTag i t).locks = s.locks := rfl
@[simp] theorem freeTag_progress (i : Initiator) (t : Tag) : (s.freeTag i t).progress = s.progress := rfl
@[simp] theorem freeTag_faults (i : Initiator) (t : Tag) : (s.freeTag i t).faults = s.faults := rfl
@[simp] theorem freeTag_mgmt (i : Initiator) (t : Tag) : (s.freeTag i t).mgmt = s.mgmt := rfl
@[simp] theorem freeTag_freeCount (i : Initiator) (t : Tag) : (s.freeTag i t).freeCount = s.freeCount := rfl

@[simp] theorem clearMarks_pending (n : Nat) : (s.clearMarks n).pending = s.pending := rfl
@[simp] theorem clearMarks_tick (n : Nat) : (s.clearMarks n).tick = s.tick := rfl
@[simp] theorem clearMarks_pins (n : Nat) : (s.clearMarks n).pins = s.pins := rfl
@[simp] theorem clearMarks_fabric (n : Nat) : (s.clearMarks n).fabric = s.fabric := rfl
@[simp] theorem clearMarks_regions (n : Nat) : (s.clearMarks n).regions = s.regions := rfl
@[simp] theorem clearMarks_waiting (n : Nat) : (s.clearMarks n).waiting = s.waiting := rfl
@[simp] theorem clearMarks_port (n : Nat) : (s.clearMarks n).port = s.port := rfl
@[simp] theorem clearMarks_pacing (n : Nat) : (s.clearMarks n).pacing = s.pacing := rfl
@[simp] theorem clearMarks_captures (n : Nat) : (s.clearMarks n).captures = s.captures := rfl
@[simp] theorem clearMarks_locks (n : Nat) : (s.clearMarks n).locks = s.locks := rfl
@[simp] theorem clearMarks_progress (n : Nat) : (s.clearMarks n).progress = s.progress := rfl
@[simp] theorem clearMarks_faults (n : Nat) : (s.clearMarks n).faults = s.faults := rfl
@[simp] theorem clearMarks_mgmt (n : Nat) : (s.clearMarks n).mgmt = s.mgmt := rfl
@[simp] theorem clearMarks_freeCount (n : Nat) : (s.clearMarks n).freeCount = s.freeCount := rfl

@[simp] theorem setPort_pending (p : PortState) : (s.setPort p).pending = s.pending := rfl
@[simp] theorem setPort_tick (p : PortState) : (s.setPort p).tick = s.tick := rfl
@[simp] theorem setPort_pins (p : PortState) : (s.setPort p).pins = s.pins := rfl
@[simp] theorem setPort_fabric (p : PortState) : (s.setPort p).fabric = s.fabric := rfl
@[simp] theorem setPort_regions (p : PortState) : (s.setPort p).regions = s.regions := rfl
@[simp] theorem setPort_posting (p : PortState) : (s.setPort p).posting = s.posting := rfl
@[simp] theorem setPort_waiting (p : PortState) : (s.setPort p).waiting = s.waiting := rfl
@[simp] theorem setPort_port (p : PortState) : (s.setPort p).port = { s.port with state := p } := rfl
@[simp] theorem setPort_pacing (p : PortState) : (s.setPort p).pacing = s.pacing := rfl
@[simp] theorem setPort_captures (p : PortState) : (s.setPort p).captures = s.captures := rfl
@[simp] theorem setPort_locks (p : PortState) : (s.setPort p).locks = s.locks := rfl
@[simp] theorem setPort_progress (p : PortState) : (s.setPort p).progress = s.progress := rfl
@[simp] theorem setPort_faults (p : PortState) : (s.setPort p).faults = s.faults := rfl
@[simp] theorem setPort_mgmt (p : PortState) : (s.setPort p).mgmt = s.mgmt := rfl
@[simp] theorem setPort_freeCount (p : PortState) : (s.setPort p).freeCount = s.freeCount := rfl

@[simp] theorem recordPace_pending (r : RegionIndex) (d : Direction) : (s.recordPace r d).pending = s.pending := rfl
@[simp] theorem recordPace_tick (r : RegionIndex) (d : Direction) : (s.recordPace r d).tick = s.tick := rfl
@[simp] theorem recordPace_pins (r : RegionIndex) (d : Direction) : (s.recordPace r d).pins = s.pins := rfl
@[simp] theorem recordPace_fabric (r : RegionIndex) (d : Direction) : (s.recordPace r d).fabric = s.fabric := rfl
@[simp] theorem recordPace_regions (r : RegionIndex) (d : Direction) : (s.recordPace r d).regions = s.regions := rfl
@[simp] theorem recordPace_posting (r : RegionIndex) (d : Direction) : (s.recordPace r d).posting = s.posting := rfl
@[simp] theorem recordPace_waiting (r : RegionIndex) (d : Direction) : (s.recordPace r d).waiting = s.waiting := rfl
@[simp] theorem recordPace_port (r : RegionIndex) (d : Direction) : (s.recordPace r d).port = s.port := rfl
@[simp] theorem recordPace_pacing (r : RegionIndex) (d : Direction) :
    (s.recordPace r d).pacing =
      s.pacing.record r d s.tick := rfl
@[simp] theorem recordPace_captures (r : RegionIndex) (d : Direction) :
    (s.recordPace r d).captures =
      s.captures := rfl
@[simp] theorem recordPace_locks (r : RegionIndex) (d : Direction) : (s.recordPace r d).locks = s.locks := rfl
@[simp] theorem recordPace_progress (r : RegionIndex) (d : Direction) :
    (s.recordPace r d).progress =
      s.progress := rfl
@[simp] theorem recordPace_faults (r : RegionIndex) (d : Direction) : (s.recordPace r d).faults = s.faults := rfl
@[simp] theorem recordPace_mgmt (r : RegionIndex) (d : Direction) : (s.recordPace r d).mgmt = s.mgmt := rfl
@[simp] theorem recordPace_freeCount (r : RegionIndex) (d : Direction) :
    (s.recordPace r d).freeCount =
      s.freeCount := rfl

@[simp] theorem clearTraffic_pending : (s.clearTraffic).pending = s.pending := rfl
@[simp] theorem clearTraffic_tick : (s.clearTraffic).tick = s.tick := rfl
@[simp] theorem clearTraffic_pins : (s.clearTraffic).pins = s.pins := rfl
@[simp] theorem clearTraffic_fabric : (s.clearTraffic).fabric = s.fabric := rfl
@[simp] theorem clearTraffic_regions : (s.clearTraffic).regions = s.regions := rfl
@[simp] theorem clearTraffic_posting : (s.clearTraffic).posting = s.posting := rfl
@[simp] theorem clearTraffic_waiting : (s.clearTraffic).waiting = s.waiting := rfl
@[simp] theorem clearTraffic_port : (s.clearTraffic).port = s.port := rfl
@[simp] theorem clearTraffic_pacing : (s.clearTraffic).pacing = s.pacing := rfl
@[simp] theorem clearTraffic_captures : (s.clearTraffic).captures = Vector.replicate 8 Place.free := rfl
@[simp] theorem clearTraffic_locks : (s.clearTraffic).locks = LockUnit.clear := rfl
@[simp] theorem clearTraffic_progress : (s.clearTraffic).progress = ProgressMonitor.clear := rfl
@[simp] theorem clearTraffic_faults : (s.clearTraffic).faults = s.faults := rfl
@[simp] theorem clearTraffic_mgmt : (s.clearTraffic).mgmt = s.mgmt := rfl
@[simp] theorem clearTraffic_freeCount : (s.clearTraffic).freeCount = s.freeCount := rfl

@[simp] theorem enterWait_pending (r : Request) (w : WaitWork) : (s.enterWait r w).pending = s.pending := rfl
@[simp] theorem enterWait_tick (r : Request) (w : WaitWork) : (s.enterWait r w).tick = s.tick := rfl
@[simp] theorem enterWait_pins (r : Request) (w : WaitWork) : (s.enterWait r w).pins = s.pins := rfl
@[simp] theorem enterWait_regions (r : Request) (w : WaitWork) : (s.enterWait r w).regions = s.regions := rfl
@[simp] theorem enterWait_posting (r : Request) (w : WaitWork) : (s.enterWait r w).posting = s.posting := rfl
@[simp] theorem enterWait_waiting (r : Request) (w : WaitWork) :
    (s.enterWait r w).waiting =
      s.waiting ++ [{ seq := s.fabric.nextSeq, initiator := r.initiator, tag := r.tag, state := .waiting, work := w }] := rfl
@[simp] theorem enterWait_port (r : Request) (w : WaitWork) : (s.enterWait r w).port = s.port := rfl
@[simp] theorem enterWait_pacing (r : Request) (w : WaitWork) : (s.enterWait r w).pacing = s.pacing := rfl
@[simp] theorem enterWait_captures (r : Request) (w : WaitWork) : (s.enterWait r w).captures = s.captures := rfl
@[simp] theorem enterWait_locks (r : Request) (w : WaitWork) : (s.enterWait r w).locks = s.locks := rfl
@[simp] theorem enterWait_progress (r : Request) (w : WaitWork) : (s.enterWait r w).progress = s.progress := rfl
@[simp] theorem enterWait_faults (r : Request) (w : WaitWork) : (s.enterWait r w).faults = s.faults := rfl
@[simp] theorem enterWait_mgmt (r : Request) (w : WaitWork) : (s.enterWait r w).mgmt = s.mgmt := rfl
@[simp] theorem enterWait_freeCount (r : Request) (w : WaitWork) : (s.enterWait r w).freeCount = s.freeCount := rfl

@[simp] theorem mergeWrite_pending (r : Request) (a : Addr) (z : Size) (d : List Byte) :
    (s.mergeWrite r a z d).pending =
      s.pending := rfl
@[simp] theorem mergeWrite_tick (r : Request) (a : Addr) (z : Size) (d : List Byte) :
    (s.mergeWrite r a z d).tick =
      s.tick := rfl
@[simp] theorem mergeWrite_pins (r : Request) (a : Addr) (z : Size) (d : List Byte) :
    (s.mergeWrite r a z d).pins =
      s.pins := rfl
@[simp] theorem mergeWrite_fabric (r : Request) (a : Addr) (z : Size) (d : List Byte) :
    (s.mergeWrite r a z d).fabric =
      s.fabric := rfl
@[simp] theorem mergeWrite_regions (r : Request) (a : Addr) (z : Size) (d : List Byte) :
    (s.mergeWrite r a z d).regions =
      s.regions := rfl
@[simp] theorem mergeWrite_waiting (r : Request) (a : Addr) (z : Size) (d : List Byte) :
    (s.mergeWrite r a z d).waiting =
      s.waiting := rfl
@[simp] theorem mergeWrite_port (r : Request) (a : Addr) (z : Size) (d : List Byte) :
    (s.mergeWrite r a z d).port =
      s.port := rfl
@[simp] theorem mergeWrite_pacing (r : Request) (a : Addr) (z : Size) (d : List Byte) :
    (s.mergeWrite r a z d).pacing =
      s.pacing := rfl
@[simp] theorem mergeWrite_captures (r : Request) (a : Addr) (z : Size) (d : List Byte) :
    (s.mergeWrite r a z d).captures =
      s.captures := rfl
@[simp] theorem mergeWrite_locks (r : Request) (a : Addr) (z : Size) (d : List Byte) :
    (s.mergeWrite r a z d).locks =
      s.locks := rfl
@[simp] theorem mergeWrite_progress (r : Request) (a : Addr) (z : Size) (d : List Byte) :
    (s.mergeWrite r a z d).progress =
      s.progress := rfl
@[simp] theorem mergeWrite_faults (r : Request) (a : Addr) (z : Size) (d : List Byte) :
    (s.mergeWrite r a z d).faults =
      s.faults := rfl
@[simp] theorem mergeWrite_mgmt (r : Request) (a : Addr) (z : Size) (d : List Byte) :
    (s.mergeWrite r a z d).mgmt =
      s.mgmt := rfl
@[simp] theorem mergeWrite_freeCount (r : Request) (a : Addr) (z : Size) (d : List Byte) :
    (s.mergeWrite r a z d).freeCount =
      s.freeCount := rfl

@[simp] theorem createEntry_pending (r : Request) (c : Classification) (a : Addr) (z : Size) (d : List Byte) :
    (s.createEntry r c a z d).pending =
      s.pending := rfl
@[simp] theorem createEntry_tick (r : Request) (c : Classification) (a : Addr) (z : Size) (d : List Byte) :
    (s.createEntry r c a z d).tick =
      s.tick := rfl
@[simp] theorem createEntry_pins (r : Request) (c : Classification) (a : Addr) (z : Size) (d : List Byte) :
    (s.createEntry r c a z d).pins =
      s.pins := rfl
@[simp] theorem createEntry_fabric (r : Request) (c : Classification) (a : Addr) (z : Size) (d : List Byte) :
    (s.createEntry r c a z d).fabric =
      { s.fabric with nextSeq := s.fabric.nextSeq + 1 } := rfl
@[simp] theorem createEntry_regions (r : Request) (c : Classification) (a : Addr) (z : Size) (d : List Byte) :
    (s.createEntry r c a z d).regions =
      s.regions := rfl
@[simp] theorem createEntry_waiting (r : Request) (c : Classification) (a : Addr) (z : Size) (d : List Byte) :
    (s.createEntry r c a z d).waiting =
      s.waiting := rfl
@[simp] theorem createEntry_port (r : Request) (c : Classification) (a : Addr) (z : Size) (d : List Byte) :
    (s.createEntry r c a z d).port =
      s.port := rfl
@[simp] theorem createEntry_pacing (r : Request) (c : Classification) (a : Addr) (z : Size) (d : List Byte) :
    (s.createEntry r c a z d).pacing =
      s.pacing := rfl
@[simp] theorem createEntry_captures (r : Request) (c : Classification) (a : Addr) (z : Size) (d : List Byte) :
    (s.createEntry r c a z d).captures =
      s.captures := rfl
@[simp] theorem createEntry_locks (r : Request) (c : Classification) (a : Addr) (z : Size) (d : List Byte) :
    (s.createEntry r c a z d).locks =
      s.locks := rfl
@[simp] theorem createEntry_progress (r : Request) (c : Classification) (a : Addr) (z : Size) (d : List Byte) :
    (s.createEntry r c a z d).progress =
      s.progress := rfl
@[simp] theorem createEntry_faults (r : Request) (c : Classification) (a : Addr) (z : Size) (d : List Byte) :
    (s.createEntry r c a z d).faults =
      s.faults := rfl
@[simp] theorem createEntry_mgmt (r : Request) (c : Classification) (a : Addr) (z : Size) (d : List Byte) :
    (s.createEntry r c a z d).mgmt =
      s.mgmt := rfl
@[simp] theorem createEntry_freeCount (r : Request) (c : Classification) (a : Addr) (z : Size) (d : List Byte) :
    (s.createEntry r c a z d).freeCount =
      s.freeCount := rfl

@[simp] theorem dropLink_pending : (s.dropLink).pending = s.pending := rfl
@[simp] theorem dropLink_tick : (s.dropLink).tick = s.tick := rfl
@[simp] theorem dropLink_pins : (s.dropLink).pins = s.pins := rfl
@[simp] theorem dropLink_fabric :
    (s.dropLink).fabric =
      { s.fabric with link := .inReset, outTags := Vector.replicate 8 [] } := rfl
@[simp] theorem dropLink_regions : (s.dropLink).regions = s.regions := rfl
@[simp] theorem dropLink_waiting : (s.dropLink).waiting = [] := rfl
@[simp] theorem dropLink_port : (s.dropLink).port = s.port := rfl
@[simp] theorem dropLink_pacing : (s.dropLink).pacing = s.pacing := rfl
@[simp] theorem dropLink_captures : (s.dropLink).captures = s.captures := rfl
@[simp] theorem dropLink_locks : (s.dropLink).locks = s.locks := rfl
@[simp] theorem dropLink_progress : (s.dropLink).progress = s.progress := rfl
@[simp] theorem dropLink_faults : (s.dropLink).faults = s.faults := rfl
@[simp] theorem dropLink_mgmt : (s.dropLink).mgmt = s.mgmt := rfl
@[simp] theorem dropLink_freeCount : (s.dropLink).freeCount = s.freeCount := rfl

@[simp] theorem elapse_pending (n : Nat) : (s.elapse n).pending = s.pending := rfl
@[simp] theorem elapse_tick (n : Nat) : (s.elapse n).tick = s.tick + n := rfl
@[simp] theorem elapse_pins (n : Nat) : (s.elapse n).pins = s.pins := rfl
@[simp] theorem elapse_fabric (n : Nat) : (s.elapse n).fabric = s.fabric := rfl
@[simp] theorem elapse_regions (n : Nat) : (s.elapse n).regions = s.regions := rfl
@[simp] theorem elapse_posting (n : Nat) : (s.elapse n).posting = s.posting := rfl
@[simp] theorem elapse_waiting (n : Nat) : (s.elapse n).waiting = s.waiting := rfl
@[simp] theorem elapse_port (n : Nat) : (s.elapse n).port = { s.port with mqOut := s.port.mqOut.drop n } := rfl
@[simp] theorem elapse_pacing (n : Nat) : (s.elapse n).pacing = s.pacing := rfl
@[simp] theorem elapse_captures (n : Nat) : (s.elapse n).captures = s.captures := rfl
@[simp] theorem elapse_locks (n : Nat) : (s.elapse n).locks = s.locks := rfl
@[simp] theorem elapse_progress (n : Nat) : (s.elapse n).progress = s.progress := rfl
@[simp] theorem elapse_faults (n : Nat) : (s.elapse n).faults = s.faults := rfl
@[simp] theorem elapse_mgmt (n : Nat) : (s.elapse n).mgmt = s.mgmt := rfl
@[simp] theorem elapse_freeCount (n : Nat) : (s.elapse n).freeCount = s.freeCount := rfl

@[simp] theorem overdueEntry_pending (n : Nat) : (s.overdueEntry n).pending = s.pending := rfl
@[simp] theorem overdueEntry_tick (n : Nat) : (s.overdueEntry n).tick = s.tick := rfl
@[simp] theorem overdueEntry_pins (n : Nat) : (s.overdueEntry n).pins = s.pins := rfl
@[simp] theorem overdueEntry_fabric (n : Nat) : (s.overdueEntry n).fabric = s.fabric := rfl
@[simp] theorem overdueEntry_regions (n : Nat) : (s.overdueEntry n).regions = s.regions := rfl
@[simp] theorem overdueEntry_waiting (n : Nat) : (s.overdueEntry n).waiting = s.waiting := rfl
@[simp] theorem overdueEntry_port (n : Nat) : (s.overdueEntry n).port = s.port := rfl
@[simp] theorem overdueEntry_pacing (n : Nat) : (s.overdueEntry n).pacing = s.pacing := rfl
@[simp] theorem overdueEntry_captures (n : Nat) : (s.overdueEntry n).captures = s.captures := rfl
@[simp] theorem overdueEntry_locks (n : Nat) : (s.overdueEntry n).locks = s.locks := rfl
@[simp] theorem overdueEntry_progress (n : Nat) : (s.overdueEntry n).progress = s.progress := rfl
@[simp] theorem overdueEntry_faults (n : Nat) : (s.overdueEntry n).faults = s.faults := rfl
@[simp] theorem overdueEntry_mgmt (n : Nat) : (s.overdueEntry n).mgmt = s.mgmt := rfl
@[simp] theorem overdueEntry_freeCount (n : Nat) : (s.overdueEntry n).freeCount = s.freeCount := rfl

@[simp] theorem drive_pending (b : Byte) : (s.drive b).pending = s.pending := rfl
@[simp] theorem drive_tick (b : Byte) : (s.drive b).tick = s.tick := rfl
@[simp] theorem drive_pins (b : Byte) : (s.drive b).pins = s.pins := rfl
@[simp] theorem drive_fabric (b : Byte) : (s.drive b).fabric = s.fabric := rfl
@[simp] theorem drive_regions (b : Byte) : (s.drive b).regions = s.regions := rfl
@[simp] theorem drive_posting (b : Byte) : (s.drive b).posting = s.posting := rfl
@[simp] theorem drive_waiting (b : Byte) : (s.drive b).waiting = s.waiting := rfl
@[simp] theorem drive_port (b : Byte) : (s.drive b).port = s.port := rfl
@[simp] theorem drive_pacing (b : Byte) : (s.drive b).pacing = s.pacing := rfl
@[simp] theorem drive_captures (b : Byte) : (s.drive b).captures = s.captures := rfl
@[simp] theorem drive_locks (b : Byte) : (s.drive b).locks = s.locks := rfl
@[simp] theorem drive_progress (b : Byte) : (s.drive b).progress = s.progress := rfl
@[simp] theorem drive_faults (b : Byte) : (s.drive b).faults = s.faults := rfl
@[simp] theorem drive_mgmt (b : Byte) :
    (s.drive b).mgmt =
      { s.mgmt with miso := if s.pins.hadReset = true then s.mgmt.miso ++ [b] else s.mgmt.miso } := rfl
@[simp] theorem drive_freeCount (b : Byte) : (s.drive b).freeCount = s.freeCount := rfl

@[simp] theorem setPhase_pending (p : FramePhase) : (s.setPhase p).pending = s.pending := rfl
@[simp] theorem setPhase_tick (p : FramePhase) : (s.setPhase p).tick = s.tick := rfl
@[simp] theorem setPhase_pins (p : FramePhase) : (s.setPhase p).pins = s.pins := rfl
@[simp] theorem setPhase_fabric (p : FramePhase) : (s.setPhase p).fabric = s.fabric := rfl
@[simp] theorem setPhase_regions (p : FramePhase) : (s.setPhase p).regions = s.regions := rfl
@[simp] theorem setPhase_posting (p : FramePhase) : (s.setPhase p).posting = s.posting := rfl
@[simp] theorem setPhase_waiting (p : FramePhase) : (s.setPhase p).waiting = s.waiting := rfl
@[simp] theorem setPhase_port (p : FramePhase) : (s.setPhase p).port = s.port := rfl
@[simp] theorem setPhase_pacing (p : FramePhase) : (s.setPhase p).pacing = s.pacing := rfl
@[simp] theorem setPhase_captures (p : FramePhase) : (s.setPhase p).captures = s.captures := rfl
@[simp] theorem setPhase_locks (p : FramePhase) : (s.setPhase p).locks = s.locks := rfl
@[simp] theorem setPhase_progress (p : FramePhase) : (s.setPhase p).progress = s.progress := rfl
@[simp] theorem setPhase_faults (p : FramePhase) : (s.setPhase p).faults = s.faults := rfl
@[simp] theorem setPhase_mgmt (p : FramePhase) : (s.setPhase p).mgmt = { s.mgmt with phase := p } := rfl
@[simp] theorem setPhase_freeCount (p : FramePhase) : (s.setPhase p).freeCount = s.freeCount := rfl

@[simp] theorem answerFrame_pending (c : Option Command) (o : ResultCode) (b : List Byte) :
    (s.answerFrame c o b).pending =
      s.pending := rfl
@[simp] theorem answerFrame_tick (c : Option Command) (o : ResultCode) (b : List Byte) :
    (s.answerFrame c o b).tick =
      s.tick := rfl
@[simp] theorem answerFrame_pins (c : Option Command) (o : ResultCode) (b : List Byte) :
    (s.answerFrame c o b).pins =
      s.pins := rfl
@[simp] theorem answerFrame_fabric (c : Option Command) (o : ResultCode) (b : List Byte) :
    (s.answerFrame c o b).fabric =
      s.fabric := rfl
@[simp] theorem answerFrame_regions (c : Option Command) (o : ResultCode) (b : List Byte) :
    (s.answerFrame c o b).regions =
      s.regions := rfl
@[simp] theorem answerFrame_posting (c : Option Command) (o : ResultCode) (b : List Byte) :
    (s.answerFrame c o b).posting =
      s.posting := rfl
@[simp] theorem answerFrame_waiting (c : Option Command) (o : ResultCode) (b : List Byte) :
    (s.answerFrame c o b).waiting =
      s.waiting := rfl
@[simp] theorem answerFrame_port (c : Option Command) (o : ResultCode) (b : List Byte) :
    (s.answerFrame c o b).port =
      s.port := rfl
@[simp] theorem answerFrame_pacing (c : Option Command) (o : ResultCode) (b : List Byte) :
    (s.answerFrame c o b).pacing =
      s.pacing := rfl
@[simp] theorem answerFrame_captures (c : Option Command) (o : ResultCode) (b : List Byte) :
    (s.answerFrame c o b).captures =
      s.captures := rfl
@[simp] theorem answerFrame_locks (c : Option Command) (o : ResultCode) (b : List Byte) :
    (s.answerFrame c o b).locks =
      s.locks := rfl
@[simp] theorem answerFrame_progress (c : Option Command) (o : ResultCode) (b : List Byte) :
    (s.answerFrame c o b).progress =
      s.progress := rfl
@[simp] theorem answerFrame_faults (c : Option Command) (o : ResultCode) (b : List Byte) :
    (s.answerFrame c o b).faults =
      s.faults := rfl
@[simp] theorem answerFrame_mgmt (c : Option Command) (o : ResultCode) (b : List Byte) :
    (s.answerFrame c o b).mgmt =
      { s.mgmt with phase := .response c (o.byte :: b) 0 } := rfl
@[simp] theorem answerFrame_freeCount (c : Option Command) (o : ResultCode) (b : List Byte) :
    (s.answerFrame c o b).freeCount =
      s.freeCount := rfl

@[simp] theorem setShadowEntry_pending (k : Fin 16) (e : RegionEntry) :
    (s.setShadowEntry k e).pending =
      s.pending := rfl
@[simp] theorem setShadowEntry_tick (k : Fin 16) (e : RegionEntry) : (s.setShadowEntry k e).tick = s.tick := rfl
@[simp] theorem setShadowEntry_pins (k : Fin 16) (e : RegionEntry) : (s.setShadowEntry k e).pins = s.pins := rfl
@[simp] theorem setShadowEntry_fabric (k : Fin 16) (e : RegionEntry) : (s.setShadowEntry k e).fabric = s.fabric := rfl
@[simp] theorem setShadowEntry_regions (k : Fin 16) (e : RegionEntry) :
    (s.setShadowEntry k e).regions =
      { s.regions with shadow := s.regions.shadow.setEntry k e } := rfl
@[simp] theorem setShadowEntry_posting (k : Fin 16) (e : RegionEntry) :
    (s.setShadowEntry k e).posting =
      s.posting := rfl
@[simp] theorem setShadowEntry_waiting (k : Fin 16) (e : RegionEntry) :
    (s.setShadowEntry k e).waiting =
      s.waiting := rfl
@[simp] theorem setShadowEntry_port (k : Fin 16) (e : RegionEntry) : (s.setShadowEntry k e).port = s.port := rfl
@[simp] theorem setShadowEntry_pacing (k : Fin 16) (e : RegionEntry) : (s.setShadowEntry k e).pacing = s.pacing := rfl
@[simp] theorem setShadowEntry_captures (k : Fin 16) (e : RegionEntry) :
    (s.setShadowEntry k e).captures =
      s.captures := rfl
@[simp] theorem setShadowEntry_locks (k : Fin 16) (e : RegionEntry) : (s.setShadowEntry k e).locks = s.locks := rfl
@[simp] theorem setShadowEntry_progress (k : Fin 16) (e : RegionEntry) :
    (s.setShadowEntry k e).progress =
      s.progress := rfl
@[simp] theorem setShadowEntry_faults (k : Fin 16) (e : RegionEntry) : (s.setShadowEntry k e).faults = s.faults := rfl
@[simp] theorem setShadowEntry_mgmt (k : Fin 16) (e : RegionEntry) : (s.setShadowEntry k e).mgmt = s.mgmt := rfl
@[simp] theorem setShadowEntry_freeCount (k : Fin 16) (e : RegionEntry) :
    (s.setShadowEntry k e).freeCount =
      s.freeCount := rfl

@[simp] theorem setShadowDefault_pending (r : RegionSettings) : (s.setShadowDefault r).pending = s.pending := rfl
@[simp] theorem setShadowDefault_tick (r : RegionSettings) : (s.setShadowDefault r).tick = s.tick := rfl
@[simp] theorem setShadowDefault_pins (r : RegionSettings) : (s.setShadowDefault r).pins = s.pins := rfl
@[simp] theorem setShadowDefault_fabric (r : RegionSettings) : (s.setShadowDefault r).fabric = s.fabric := rfl
@[simp] theorem setShadowDefault_regions (r : RegionSettings) :
    (s.setShadowDefault r).regions =
      { s.regions with shadow := { s.regions.shadow with defaultRegion := r } } := rfl
@[simp] theorem setShadowDefault_posting (r : RegionSettings) : (s.setShadowDefault r).posting = s.posting := rfl
@[simp] theorem setShadowDefault_waiting (r : RegionSettings) : (s.setShadowDefault r).waiting = s.waiting := rfl
@[simp] theorem setShadowDefault_port (r : RegionSettings) : (s.setShadowDefault r).port = s.port := rfl
@[simp] theorem setShadowDefault_pacing (r : RegionSettings) : (s.setShadowDefault r).pacing = s.pacing := rfl
@[simp] theorem setShadowDefault_captures (r : RegionSettings) : (s.setShadowDefault r).captures = s.captures := rfl
@[simp] theorem setShadowDefault_locks (r : RegionSettings) : (s.setShadowDefault r).locks = s.locks := rfl
@[simp] theorem setShadowDefault_progress (r : RegionSettings) : (s.setShadowDefault r).progress = s.progress := rfl
@[simp] theorem setShadowDefault_faults (r : RegionSettings) : (s.setShadowDefault r).faults = s.faults := rfl
@[simp] theorem setShadowDefault_mgmt (r : RegionSettings) : (s.setShadowDefault r).mgmt = s.mgmt := rfl
@[simp] theorem setShadowDefault_freeCount (r : RegionSettings) :
    (s.setShadowDefault r).freeCount =
      s.freeCount := rfl

@[simp] theorem setLimit_pending (n : LimitName) (v : Nat) : (s.setLimit n v).pending = s.pending := rfl
@[simp] theorem setLimit_tick (n : LimitName) (v : Nat) : (s.setLimit n v).tick = s.tick := rfl
@[simp] theorem setLimit_pins (n : LimitName) (v : Nat) : (s.setLimit n v).pins = s.pins := rfl
@[simp] theorem setLimit_fabric (n : LimitName) (v : Nat) : (s.setLimit n v).fabric = s.fabric := rfl
@[simp] theorem setLimit_regions (n : LimitName) (v : Nat) : (s.setLimit n v).regions = s.regions := rfl
@[simp] theorem setLimit_posting (n : LimitName) (v : Nat) : (s.setLimit n v).posting = s.posting := rfl
@[simp] theorem setLimit_waiting (n : LimitName) (v : Nat) : (s.setLimit n v).waiting = s.waiting := rfl
@[simp] theorem setLimit_port (n : LimitName) (v : Nat) : (s.setLimit n v).port = s.port := rfl
@[simp] theorem setLimit_pacing (n : LimitName) (v : Nat) : (s.setLimit n v).pacing = s.pacing := rfl
@[simp] theorem setLimit_captures (n : LimitName) (v : Nat) : (s.setLimit n v).captures = s.captures := rfl
@[simp] theorem setLimit_locks (n : LimitName) (v : Nat) : (s.setLimit n v).locks = s.locks := rfl
@[simp] theorem setLimit_progress (n : LimitName) (v : Nat) : (s.setLimit n v).progress = s.progress := rfl
@[simp] theorem setLimit_faults (n : LimitName) (v : Nat) : (s.setLimit n v).faults = s.faults := rfl
@[simp] theorem setLimit_mgmt (n : LimitName) (v : Nat) :
    (s.setLimit n v).mgmt =
      { s.mgmt with limits := s.mgmt.limits.set n v } := rfl
@[simp] theorem setLimit_freeCount (n : LimitName) (v : Nat) : (s.setLimit n v).freeCount = s.freeCount := rfl

end Sys2Proof.Machine.State
end

