-- ==== Sys2Proof/Laws/Ops.lean ====
section
/-! SUPPORT. What each shared operation leaves unchanged, and what it can do, said once. -/

namespace Sys2Proof.Machine.State

open Sys2Proof

variable (s : State)

/-! ### Several responses at one event -/

/-- Several responses leave in some order, and each passes through the Progress Monitor in that order. -/
theorem foldl_respond_eq (rs : List Response) (s : State) :
    rs.foldl respond s =
      { s with
        fabric := { s.fabric with responses := s.fabric.responses ++ rs }
        progress := rs.foldl (fun p r => p.other r.initiator s.reservationExpiry) s.progress } := by
  induction rs generalizing s with
  | nil => simp
  | cons r rest ih => rw [List.foldl_cons, ih]; simp [respond, send, reservationExpiry]

theorem respondAll_eq (rs : List Response) :
    s.respondAll rs =
      { s with
        fabric := { s.fabric with responses := s.fabric.responses ++ freeOrder s.freeCount rs }
        progress := (freeOrder s.freeCount rs).foldl (fun p r => p.other r.initiator s.reservationExpiry) s.progress
        freeCount := s.freeCount + rs.length } := by
  rw [respondAll, foldl_respond_eq]; rfl

@[simp] theorem respondAll_pending (rs : List Response) : (s.respondAll rs).pending = s.pending := by simp [respondAll_eq]
@[simp] theorem respondAll_tick (rs : List Response) : (s.respondAll rs).tick = s.tick := by simp [respondAll_eq]
@[simp] theorem respondAll_pins (rs : List Response) : (s.respondAll rs).pins = s.pins := by simp [respondAll_eq]
@[simp] theorem respondAll_regions (rs : List Response) : (s.respondAll rs).regions = s.regions := by simp [respondAll_eq]
@[simp] theorem respondAll_posting (rs : List Response) : (s.respondAll rs).posting = s.posting := by simp [respondAll_eq]
@[simp] theorem respondAll_waiting (rs : List Response) : (s.respondAll rs).waiting = s.waiting := by simp [respondAll_eq]
@[simp] theorem respondAll_port (rs : List Response) : (s.respondAll rs).port = s.port := by simp [respondAll_eq]
@[simp] theorem respondAll_pacing (rs : List Response) : (s.respondAll rs).pacing = s.pacing := by simp [respondAll_eq]
@[simp] theorem respondAll_captures (rs : List Response) : (s.respondAll rs).captures = s.captures := by simp [respondAll_eq]
@[simp] theorem respondAll_locks (rs : List Response) : (s.respondAll rs).locks = s.locks := by simp [respondAll_eq]
@[simp] theorem respondAll_faults (rs : List Response) : (s.respondAll rs).faults = s.faults := by simp [respondAll_eq]
@[simp] theorem respondAll_mgmt (rs : List Response) : (s.respondAll rs).mgmt = s.mgmt := by simp [respondAll_eq]

@[simp] theorem respondAll_link (rs : List Response) : (s.respondAll rs).fabric.link = s.fabric.link := by
  simp [respondAll_eq]
@[simp] theorem respondAll_outTags (rs : List Response) : (s.respondAll rs).fabric.outTags = s.fabric.outTags := by
  simp [respondAll_eq]
@[simp] theorem respondAll_nextSeq (rs : List Response) : (s.respondAll rs).fabric.nextSeq = s.fabric.nextSeq := by
  simp [respondAll_eq]

/-- The responses given at one event leave in some order (R169). -/
theorem respondAll_responses (rs : List Response) :
    ∃ l, l.Perm rs ∧ (s.respondAll rs).fabric.responses = s.fabric.responses ++ l :=
  ⟨freeOrder s.freeCount rs, freeOrder_perm _ _, by simp [respondAll_eq]⟩

/-! ### The claim and the outcome of a DEVICE read -/

@[simp] theorem claimPlace_pending (n : Nat) (i : Initiator) (a : WaitAccess) : (s.claimPlace n i a).pending = s.pending := by unfold claimPlace; split <;> rfl
@[simp] theorem claimPlace_tick (n : Nat) (i : Initiator) (a : WaitAccess) : (s.claimPlace n i a).tick = s.tick := by unfold claimPlace; split <;> rfl
@[simp] theorem claimPlace_pins (n : Nat) (i : Initiator) (a : WaitAccess) : (s.claimPlace n i a).pins = s.pins := by unfold claimPlace; split <;> rfl
@[simp] theorem claimPlace_fabric (n : Nat) (i : Initiator) (a : WaitAccess) : (s.claimPlace n i a).fabric = s.fabric := by unfold claimPlace; split <;> rfl
@[simp] theorem claimPlace_regions (n : Nat) (i : Initiator) (a : WaitAccess) : (s.claimPlace n i a).regions = s.regions := by unfold claimPlace; split <;> rfl
@[simp] theorem claimPlace_posting (n : Nat) (i : Initiator) (a : WaitAccess) : (s.claimPlace n i a).posting = s.posting := by unfold claimPlace; split <;> rfl
@[simp] theorem claimPlace_waiting (n : Nat) (i : Initiator) (a : WaitAccess) : (s.claimPlace n i a).waiting = s.waiting := by unfold claimPlace; split <;> rfl
@[simp] theorem claimPlace_port (n : Nat) (i : Initiator) (a : WaitAccess) : (s.claimPlace n i a).port = s.port := by unfold claimPlace; split <;> rfl
@[simp] theorem claimPlace_pacing (n : Nat) (i : Initiator) (a : WaitAccess) : (s.claimPlace n i a).pacing = s.pacing := by unfold claimPlace; split <;> rfl
@[simp] theorem claimPlace_locks (n : Nat) (i : Initiator) (a : WaitAccess) : (s.claimPlace n i a).locks = s.locks := by unfold claimPlace; split <;> rfl
@[simp] theorem claimPlace_progress (n : Nat) (i : Initiator) (a : WaitAccess) : (s.claimPlace n i a).progress = s.progress := by unfold claimPlace; split <;> rfl
@[simp] theorem claimPlace_faults (n : Nat) (i : Initiator) (a : WaitAccess) : (s.claimPlace n i a).faults = s.faults := by unfold claimPlace; split <;> rfl
@[simp] theorem claimPlace_mgmt (n : Nat) (i : Initiator) (a : WaitAccess) : (s.claimPlace n i a).mgmt = s.mgmt := by unfold claimPlace; split <;> rfl
@[simp] theorem claimPlace_freeCount (n : Nat) (i : Initiator) (a : WaitAccess) : (s.claimPlace n i a).freeCount = s.freeCount := by unfold claimPlace; split <;> rfl

@[simp] theorem fillPlace_pending (w : WaitEntry) (a : WaitAccess) (r : CaptureResult) (d : List Byte) : (s.fillPlace w a r d).pending = s.pending := by unfold fillPlace; split <;> rfl
@[simp] theorem fillPlace_tick (w : WaitEntry) (a : WaitAccess) (r : CaptureResult) (d : List Byte) : (s.fillPlace w a r d).tick = s.tick := by unfold fillPlace; split <;> rfl
@[simp] theorem fillPlace_pins (w : WaitEntry) (a : WaitAccess) (r : CaptureResult) (d : List Byte) : (s.fillPlace w a r d).pins = s.pins := by unfold fillPlace; split <;> rfl
@[simp] theorem fillPlace_fabric (w : WaitEntry) (a : WaitAccess) (r : CaptureResult) (d : List Byte) : (s.fillPlace w a r d).fabric = s.fabric := by unfold fillPlace; split <;> rfl
@[simp] theorem fillPlace_regions (w : WaitEntry) (a : WaitAccess) (r : CaptureResult) (d : List Byte) : (s.fillPlace w a r d).regions = s.regions := by unfold fillPlace; split <;> rfl
@[simp] theorem fillPlace_posting (w : WaitEntry) (a : WaitAccess) (r : CaptureResult) (d : List Byte) : (s.fillPlace w a r d).posting = s.posting := by unfold fillPlace; split <;> rfl
@[simp] theorem fillPlace_waiting (w : WaitEntry) (a : WaitAccess) (r : CaptureResult) (d : List Byte) : (s.fillPlace w a r d).waiting = s.waiting := by unfold fillPlace; split <;> rfl
@[simp] theorem fillPlace_port (w : WaitEntry) (a : WaitAccess) (r : CaptureResult) (d : List Byte) : (s.fillPlace w a r d).port = s.port := by unfold fillPlace; split <;> rfl
@[simp] theorem fillPlace_pacing (w : WaitEntry) (a : WaitAccess) (r : CaptureResult) (d : List Byte) : (s.fillPlace w a r d).pacing = s.pacing := by unfold fillPlace; split <;> rfl
@[simp] theorem fillPlace_locks (w : WaitEntry) (a : WaitAccess) (r : CaptureResult) (d : List Byte) : (s.fillPlace w a r d).locks = s.locks := by unfold fillPlace; split <;> rfl
@[simp] theorem fillPlace_progress (w : WaitEntry) (a : WaitAccess) (r : CaptureResult) (d : List Byte) : (s.fillPlace w a r d).progress = s.progress := by unfold fillPlace; split <;> rfl
@[simp] theorem fillPlace_faults (w : WaitEntry) (a : WaitAccess) (r : CaptureResult) (d : List Byte) : (s.fillPlace w a r d).faults = s.faults := by unfold fillPlace; split <;> rfl
@[simp] theorem fillPlace_mgmt (w : WaitEntry) (a : WaitAccess) (r : CaptureResult) (d : List Byte) : (s.fillPlace w a r d).mgmt = s.mgmt := by unfold fillPlace; split <;> rfl
@[simp] theorem fillPlace_freeCount (w : WaitEntry) (a : WaitAccess) (r : CaptureResult) (d : List Byte) : (s.fillPlace w a r d).freeCount = s.freeCount := by unfold fillPlace; split <;> rfl

/-! ### The decision of the Issue Arbiter -/

@[simp] theorem issueRequest_pending (w : WaitEntry) : (s.issueRequest w).pending = s.pending := by unfold issueRequest; split <;> (try rfl) <;> (dsimp only; split <;> split <;> simp)
@[simp] theorem issueRequest_tick (w : WaitEntry) : (s.issueRequest w).tick = s.tick := by unfold issueRequest; split <;> (try rfl) <;> (dsimp only; split <;> split <;> simp)
@[simp] theorem issueRequest_pins (w : WaitEntry) : (s.issueRequest w).pins = s.pins := by unfold issueRequest; split <;> (try rfl) <;> (dsimp only; split <;> split <;> simp)
@[simp] theorem issueRequest_fabric (w : WaitEntry) : (s.issueRequest w).fabric = s.fabric := by unfold issueRequest; split <;> (try rfl) <;> (dsimp only; split <;> split <;> simp)
@[simp] theorem issueRequest_regions (w : WaitEntry) : (s.issueRequest w).regions = s.regions := by unfold issueRequest; split <;> (try rfl) <;> (dsimp only; split <;> split <;> simp)
@[simp] theorem issueRequest_posting (w : WaitEntry) : (s.issueRequest w).posting = s.posting := by unfold issueRequest; split <;> (try rfl) <;> (dsimp only; split <;> split <;> simp)
@[simp] theorem issueRequest_pacing (w : WaitEntry) : (s.issueRequest w).pacing = s.pacing := by unfold issueRequest; split <;> (try rfl) <;> (dsimp only; split <;> split <;> simp)
@[simp] theorem issueRequest_locks (w : WaitEntry) : (s.issueRequest w).locks = s.locks := by unfold issueRequest; split <;> (try rfl) <;> (dsimp only; split <;> split <;> simp)
@[simp] theorem issueRequest_progress (w : WaitEntry) : (s.issueRequest w).progress = s.progress := by unfold issueRequest; split <;> (try rfl) <;> (dsimp only; split <;> split <;> simp)
@[simp] theorem issueRequest_faults (w : WaitEntry) : (s.issueRequest w).faults = s.faults := by unfold issueRequest; split <;> (try rfl) <;> (dsimp only; split <;> split <;> simp)
@[simp] theorem issueRequest_mgmt (w : WaitEntry) : (s.issueRequest w).mgmt = s.mgmt := by unfold issueRequest; split <;> (try rfl) <;> (dsimp only; split <;> split <;> simp)
@[simp] theorem issueRequest_freeCount (w : WaitEntry) : (s.issueRequest w).freeCount = s.freeCount := by unfold issueRequest; split <;> (try rfl) <;> (dsimp only; split <;> split <;> simp)

@[simp] theorem arbitrate_pending : (s.arbitrate).pending = s.pending := by unfold arbitrate; split <;> (try rfl); split <;> simp
@[simp] theorem arbitrate_tick : (s.arbitrate).tick = s.tick := by unfold arbitrate; split <;> (try rfl); split <;> simp
@[simp] theorem arbitrate_pins : (s.arbitrate).pins = s.pins := by unfold arbitrate; split <;> (try rfl); split <;> simp
@[simp] theorem arbitrate_fabric : (s.arbitrate).fabric = s.fabric := by unfold arbitrate; split <;> (try rfl); split <;> simp
@[simp] theorem arbitrate_regions : (s.arbitrate).regions = s.regions := by unfold arbitrate; split <;> (try rfl); split <;> simp
@[simp] theorem arbitrate_pacing : (s.arbitrate).pacing = s.pacing := by unfold arbitrate; split <;> (try rfl); split <;> simp
@[simp] theorem arbitrate_locks : (s.arbitrate).locks = s.locks := by unfold arbitrate; split <;> (try rfl); split <;> simp
@[simp] theorem arbitrate_progress : (s.arbitrate).progress = s.progress := by unfold arbitrate; split <;> (try rfl); split <;> simp
@[simp] theorem arbitrate_faults : (s.arbitrate).faults = s.faults := by unfold arbitrate; split <;> (try rfl); split <;> simp
@[simp] theorem arbitrate_mgmt : (s.arbitrate).mgmt = s.mgmt := by unfold arbitrate; split <;> (try rfl); split <;> simp
@[simp] theorem arbitrate_freeCount : (s.arbitrate).freeCount = s.freeCount := by unfold arbitrate; split <;> (try rfl); split <;> simp

@[simp] theorem judge_pending : (s.judge).pending = s.pending := by simp [judge]
@[simp] theorem judge_tick : (s.judge).tick = s.tick := by simp [judge]
@[simp] theorem judge_pins : (s.judge).pins = s.pins := by simp [judge]
@[simp] theorem judge_fabric : (s.judge).fabric = s.fabric := by simp [judge]
@[simp] theorem judge_regions : (s.judge).regions = s.regions := by simp [judge]
@[simp] theorem judge_locks : (s.judge).locks = s.locks := by simp [judge]
@[simp] theorem judge_progress : (s.judge).progress = s.progress := by simp [judge]
@[simp] theorem judge_faults : (s.judge).faults = s.faults := by simp [judge]
@[simp] theorem judge_mgmt : (s.judge).mgmt = s.mgmt := by simp [judge]
@[simp] theorem judge_freeCount : (s.judge).freeCount = s.freeCount := by simp [judge]

@[simp] theorem judge_profiles : s.judge.pacing.profiles = s.pacing.profiles := by simp [judge]
@[simp] theorem judge_records : s.judge.pacing.records = s.pacing.records := by simp [judge]

/-- While the port is not READY the arbiter decides nothing (R72). -/
theorem arbitrate_of_not_ready (h : s.port.state ≠ .ready) : s.arbitrate = s := by
  unfold arbitrate; split
  · contradiction
  · rfl
  · rfl

/-! ### Departures -/

theorem foldl_freeTag_eq (ws : List WaitEntry) (s : State) :
    ws.foldl (fun t w => t.freeTag w.initiator w.tag) s =
      { s with
        fabric :=
          { s.fabric with
            outTags := ws.foldl (fun v w => vset v w.initiator ((v.get w.initiator).filter (· != w.tag)))
              s.fabric.outTags } } := by
  induction ws generalizing s with
  | nil => rfl
  | cons w rest ih => rw [List.foldl_cons, ih]; rfl

/-- Requests leave the Wait List and their tags leave the outstanding sets; nothing else changes (R67, R165). -/
theorem removeRequests_eq (ws : List WaitEntry) :
    s.removeRequests ws =
      { s with
        waiting := s.waiting.filter fun v => !(ws.any fun w => w.seq == v.seq)
        fabric :=
          { s.fabric with
            outTags := ws.foldl (fun v w => vset v w.initiator ((v.get w.initiator).filter (· != w.tag)))
              s.fabric.outTags } } := by
  rw [removeRequests, foldl_freeTag_eq]

@[simp] theorem removeRequests_pending (ws : List WaitEntry) : (s.removeRequests ws).pending = s.pending := by simp [removeRequests_eq]
@[simp] theorem removeRequests_tick (ws : List WaitEntry) : (s.removeRequests ws).tick = s.tick := by simp [removeRequests_eq]
@[simp] theorem removeRequests_pins (ws : List WaitEntry) : (s.removeRequests ws).pins = s.pins := by simp [removeRequests_eq]
@[simp] theorem removeRequests_regions (ws : List WaitEntry) : (s.removeRequests ws).regions = s.regions := by simp [removeRequests_eq]
@[simp] theorem removeRequests_posting (ws : List WaitEntry) : (s.removeRequests ws).posting = s.posting := by simp [removeRequests_eq]
@[simp] theorem removeRequests_port (ws : List WaitEntry) : (s.removeRequests ws).port = s.port := by simp [removeRequests_eq]
@[simp] theorem removeRequests_pacing (ws : List WaitEntry) : (s.removeRequests ws).pacing = s.pacing := by simp [removeRequests_eq]
@[simp] theorem removeRequests_captures (ws : List WaitEntry) : (s.removeRequests ws).captures = s.captures := by simp [removeRequests_eq]
@[simp] theorem removeRequests_locks (ws : List WaitEntry) : (s.removeRequests ws).locks = s.locks := by simp [removeRequests_eq]
@[simp] theorem removeRequests_progress (ws : List WaitEntry) : (s.removeRequests ws).progress = s.progress := by simp [removeRequests_eq]
@[simp] theorem removeRequests_faults (ws : List WaitEntry) : (s.removeRequests ws).faults = s.faults := by simp [removeRequests_eq]
@[simp] theorem removeRequests_mgmt (ws : List WaitEntry) : (s.removeRequests ws).mgmt = s.mgmt := by simp [removeRequests_eq]
@[simp] theorem removeRequests_freeCount (ws : List WaitEntry) : (s.removeRequests ws).freeCount = s.freeCount := by simp [removeRequests_eq]

@[simp] theorem removeRequests_responses (ws : List WaitEntry) :
    (s.removeRequests ws).fabric.responses = s.fabric.responses := by simp [removeRequests_eq]
@[simp] theorem removeRequests_nextSeq (ws : List WaitEntry) :
    (s.removeRequests ws).fabric.nextSeq = s.fabric.nextSeq := by simp [removeRequests_eq]
@[simp] theorem removeRequests_link (ws : List WaitEntry) :
    (s.removeRequests ws).fabric.link = s.fabric.link := by simp [removeRequests_eq]

@[simp] theorem depart_pending (n : Nat) (rs : List Response) : (s.depart n rs).pending = s.pending := by simp [depart]
@[simp] theorem depart_tick (n : Nat) (rs : List Response) : (s.depart n rs).tick = s.tick := by simp [depart]
@[simp] theorem depart_pins (n : Nat) (rs : List Response) : (s.depart n rs).pins = s.pins := by simp [depart]
@[simp] theorem depart_regions (n : Nat) (rs : List Response) : (s.depart n rs).regions = s.regions := by simp [depart]
@[simp] theorem depart_posting (n : Nat) (rs : List Response) : (s.depart n rs).posting = s.posting := by simp [depart]
@[simp] theorem depart_port (n : Nat) (rs : List Response) : (s.depart n rs).port = s.port := by simp [depart]
@[simp] theorem depart_pacing (n : Nat) (rs : List Response) : (s.depart n rs).pacing = s.pacing := by simp [depart]
@[simp] theorem depart_captures (n : Nat) (rs : List Response) : (s.depart n rs).captures = s.captures := by simp [depart]
@[simp] theorem depart_locks (n : Nat) (rs : List Response) : (s.depart n rs).locks = s.locks := by simp [depart]
@[simp] theorem depart_faults (n : Nat) (rs : List Response) : (s.depart n rs).faults = s.faults := by simp [depart]
@[simp] theorem depart_mgmt (n : Nat) (rs : List Response) : (s.depart n rs).mgmt = s.mgmt := by simp [depart]

@[simp] theorem depart_nextSeq (n : Nat) (rs : List Response) : (s.depart n rs).fabric.nextSeq = s.fabric.nextSeq := by
  simp [depart]
@[simp] theorem depart_link (n : Nat) (rs : List Response) : (s.depart n rs).fabric.link = s.fabric.link := by
  simp [depart]

@[simp] theorem handOverAny_pending (b : Option FaultBody) : (s.handOverAny b).pending = s.pending := by cases b <;> rfl
@[simp] theorem handOverAny_tick (b : Option FaultBody) : (s.handOverAny b).tick = s.tick := by cases b <;> rfl
@[simp] theorem handOverAny_pins (b : Option FaultBody) : (s.handOverAny b).pins = s.pins := by cases b <;> rfl
@[simp] theorem handOverAny_fabric (b : Option FaultBody) : (s.handOverAny b).fabric = s.fabric := by cases b <;> rfl
@[simp] theorem handOverAny_regions (b : Option FaultBody) : (s.handOverAny b).regions = s.regions := by cases b <;> rfl
@[simp] theorem handOverAny_posting (b : Option FaultBody) : (s.handOverAny b).posting = s.posting := by cases b <;> rfl
@[simp] theorem handOverAny_waiting (b : Option FaultBody) : (s.handOverAny b).waiting = s.waiting := by cases b <;> rfl
@[simp] theorem handOverAny_port (b : Option FaultBody) : (s.handOverAny b).port = s.port := by cases b <;> rfl
@[simp] theorem handOverAny_pacing (b : Option FaultBody) : (s.handOverAny b).pacing = s.pacing := by cases b <;> rfl
@[simp] theorem handOverAny_captures (b : Option FaultBody) : (s.handOverAny b).captures = s.captures := by cases b <;> rfl
@[simp] theorem handOverAny_locks (b : Option FaultBody) : (s.handOverAny b).locks = s.locks := by cases b <;> rfl
@[simp] theorem handOverAny_progress (b : Option FaultBody) : (s.handOverAny b).progress = s.progress := by cases b <;> rfl
@[simp] theorem handOverAny_mgmt (b : Option FaultBody) : (s.handOverAny b).mgmt = s.mgmt := by cases b <;> rfl
@[simp] theorem handOverAny_freeCount (b : Option FaultBody) : (s.handOverAny b).freeCount = s.freeCount := by cases b <;> rfl

@[simp] theorem headOutcome_pending (o : PortOutcome) : (s.headOutcome o).pending = s.pending := by unfold headOutcome; split <;> simp
@[simp] theorem headOutcome_tick (o : PortOutcome) : (s.headOutcome o).tick = s.tick := by unfold headOutcome; split <;> simp
@[simp] theorem headOutcome_pins (o : PortOutcome) : (s.headOutcome o).pins = s.pins := by unfold headOutcome; split <;> simp
@[simp] theorem headOutcome_regions (o : PortOutcome) : (s.headOutcome o).regions = s.regions := by unfold headOutcome; split <;> simp
@[simp] theorem headOutcome_port (o : PortOutcome) : (s.headOutcome o).port = s.port := by unfold headOutcome; split <;> simp
@[simp] theorem headOutcome_pacing (o : PortOutcome) : (s.headOutcome o).pacing = s.pacing := by unfold headOutcome; split <;> simp
@[simp] theorem headOutcome_captures (o : PortOutcome) : (s.headOutcome o).captures = s.captures := by unfold headOutcome; split <;> simp
@[simp] theorem headOutcome_locks (o : PortOutcome) : (s.headOutcome o).locks = s.locks := by unfold headOutcome; split <;> simp
@[simp] theorem headOutcome_mgmt (o : PortOutcome) : (s.headOutcome o).mgmt = s.mgmt := by unfold headOutcome; split <;> simp

@[simp] theorem headOutcome_nextSeq (o : PortOutcome) : (s.headOutcome o).fabric.nextSeq = s.fabric.nextSeq := by
  unfold headOutcome; split <;> simp
@[simp] theorem headOutcome_link (o : PortOutcome) : (s.headOutcome o).fabric.link = s.fabric.link := by
  unfold headOutcome; split <;> simp

@[simp] theorem requestOutcome_pending (n : Nat) (o : PortOutcome) : (s.requestOutcome n o).pending = s.pending := by unfold requestOutcome; split <;> (try rfl); split <;> (try rfl); dsimp only; split <;> simp
@[simp] theorem requestOutcome_tick (n : Nat) (o : PortOutcome) : (s.requestOutcome n o).tick = s.tick := by unfold requestOutcome; split <;> (try rfl); split <;> (try rfl); dsimp only; split <;> simp
@[simp] theorem requestOutcome_pins (n : Nat) (o : PortOutcome) : (s.requestOutcome n o).pins = s.pins := by unfold requestOutcome; split <;> (try rfl); split <;> (try rfl); dsimp only; split <;> simp
@[simp] theorem requestOutcome_regions (n : Nat) (o : PortOutcome) : (s.requestOutcome n o).regions = s.regions := by unfold requestOutcome; split <;> (try rfl); split <;> (try rfl); dsimp only; split <;> simp
@[simp] theorem requestOutcome_port (n : Nat) (o : PortOutcome) : (s.requestOutcome n o).port = s.port := by unfold requestOutcome; split <;> (try rfl); split <;> (try rfl); dsimp only; split <;> simp
@[simp] theorem requestOutcome_pacing (n : Nat) (o : PortOutcome) : (s.requestOutcome n o).pacing = s.pacing := by unfold requestOutcome; split <;> (try rfl); split <;> (try rfl); dsimp only; split <;> simp
@[simp] theorem requestOutcome_faults (n : Nat) (o : PortOutcome) : (s.requestOutcome n o).faults = s.faults := by unfold requestOutcome; split <;> (try rfl); split <;> (try rfl); dsimp only; split <;> simp
@[simp] theorem requestOutcome_mgmt (n : Nat) (o : PortOutcome) : (s.requestOutcome n o).mgmt = s.mgmt := by unfold requestOutcome; split <;> (try rfl); split <;> (try rfl); dsimp only; split <;> simp

@[simp] theorem requestOutcome_nextSeq (n : Nat) (o : PortOutcome) :
    (s.requestOutcome n o).fabric.nextSeq = s.fabric.nextSeq := by
  unfold requestOutcome; split <;> (try rfl); split <;> (try rfl); dsimp only; split <;> simp
@[simp] theorem requestOutcome_link (n : Nat) (o : PortOutcome) :
    (s.requestOutcome n o).fabric.link = s.fabric.link := by
  unfold requestOutcome; split <;> (try rfl); split <;> (try rfl); dsimp only; split <;> simp

@[simp] theorem deliver_pending (q : Requester) (o : PortOutcome) : (s.deliver q o).pending = s.pending := by cases q <;> simp [deliver]
@[simp] theorem deliver_tick (q : Requester) (o : PortOutcome) : (s.deliver q o).tick = s.tick := by cases q <;> simp [deliver]
@[simp] theorem deliver_pins (q : Requester) (o : PortOutcome) : (s.deliver q o).pins = s.pins := by cases q <;> simp [deliver]
@[simp] theorem deliver_regions (q : Requester) (o : PortOutcome) : (s.deliver q o).regions = s.regions := by cases q <;> simp [deliver]
@[simp] theorem deliver_port (q : Requester) (o : PortOutcome) : (s.deliver q o).port = s.port := by cases q <;> simp [deliver]
@[simp] theorem deliver_pacing (q : Requester) (o : PortOutcome) : (s.deliver q o).pacing = s.pacing := by cases q <;> simp [deliver]
@[simp] theorem deliver_mgmt (q : Requester) (o : PortOutcome) : (s.deliver q o).mgmt = s.mgmt := by cases q <;> simp [deliver]

@[simp] theorem deliver_nextSeq (q : Requester) (o : PortOutcome) :
    (s.deliver q o).fabric.nextSeq = s.fabric.nextSeq := by cases q <;> simp [deliver]
@[simp] theorem deliver_link (q : Requester) (o : PortOutcome) :
    (s.deliver q o).fabric.link = s.fabric.link := by cases q <;> simp [deliver]

@[simp] theorem orphanAccess_pending (p : Requester → Bool) : (s.orphanAccess p).pending = s.pending := by unfold orphanAccess; split <;> (try rfl); split <;> rfl
@[simp] theorem orphanAccess_tick (p : Requester → Bool) : (s.orphanAccess p).tick = s.tick := by unfold orphanAccess; split <;> (try rfl); split <;> rfl
@[simp] theorem orphanAccess_pins (p : Requester → Bool) : (s.orphanAccess p).pins = s.pins := by unfold orphanAccess; split <;> (try rfl); split <;> rfl
@[simp] theorem orphanAccess_fabric (p : Requester → Bool) : (s.orphanAccess p).fabric = s.fabric := by unfold orphanAccess; split <;> (try rfl); split <;> rfl
@[simp] theorem orphanAccess_regions (p : Requester → Bool) : (s.orphanAccess p).regions = s.regions := by unfold orphanAccess; split <;> (try rfl); split <;> rfl
@[simp] theorem orphanAccess_posting (p : Requester → Bool) : (s.orphanAccess p).posting = s.posting := by unfold orphanAccess; split <;> (try rfl); split <;> rfl
@[simp] theorem orphanAccess_waiting (p : Requester → Bool) : (s.orphanAccess p).waiting = s.waiting := by unfold orphanAccess; split <;> (try rfl); split <;> rfl
@[simp] theorem orphanAccess_pacing (p : Requester → Bool) : (s.orphanAccess p).pacing = s.pacing := by unfold orphanAccess; split <;> (try rfl); split <;> rfl
@[simp] theorem orphanAccess_captures (p : Requester → Bool) : (s.orphanAccess p).captures = s.captures := by unfold orphanAccess; split <;> (try rfl); split <;> rfl
@[simp] theorem orphanAccess_locks (p : Requester → Bool) : (s.orphanAccess p).locks = s.locks := by unfold orphanAccess; split <;> (try rfl); split <;> rfl
@[simp] theorem orphanAccess_progress (p : Requester → Bool) : (s.orphanAccess p).progress = s.progress := by unfold orphanAccess; split <;> (try rfl); split <;> rfl
@[simp] theorem orphanAccess_faults (p : Requester → Bool) : (s.orphanAccess p).faults = s.faults := by unfold orphanAccess; split <;> (try rfl); split <;> rfl
@[simp] theorem orphanAccess_mgmt (p : Requester → Bool) : (s.orphanAccess p).mgmt = s.mgmt := by unfold orphanAccess; split <;> (try rfl); split <;> rfl
@[simp] theorem orphanAccess_freeCount (p : Requester → Bool) : (s.orphanAccess p).freeCount = s.freeCount := by unfold orphanAccess; split <;> (try rfl); split <;> rfl

end Sys2Proof.Machine.State
end

