-- ==== Sys2Proof/Laws/Fabric.lean ====
section
/-! SUPPORT. The acceptance order in parts: how an arrival reaches the lookup, what a lookup that answers nothing leaves,
and when the Issue Arbiter decides at the end of an arrival. -/

namespace Sys2Proof.Machine

open Sys2Proof

theorem exec_command (r : Request) (s : State) : exec r.command s = .next (s.arrive r) := by
  obtain ⟨i, t, k⟩ := r; cases k <;> rfl

/-! ### Captures -/

theorem Place.holds_drop (p q : Capture → Bool) (x : Place) :
    (x.drop p).holds q = (x.holds q && !x.holds p) := by
  obtain ⟨c, n⟩ := x
  cases c with
  | none => simp [Place.drop, Place.holds]
  | some c => by_cases hp : p c = true <;> simp_all [Place.drop, Place.holds]

theorem Place.drop_drop (p q : Capture → Bool) (x : Place) :
    (x.drop p).drop q = x.drop fun c => p c || q c := by
  obtain ⟨c, n⟩ := x
  cases c with
  | none => simp [Place.drop, Place.holds]
  | some c =>
    by_cases hp : p c = true <;> by_cases hq : q c = true <;> simp_all [Place.drop, Place.holds]

theorem Place.drop_eq (p : Capture → Bool) (x : Place) :
    x.drop p =
      match x.capture with
      | some c => if p c = true then { x with capture := none } else x
      | none => x := by
  obtain ⟨c, n⟩ := x; cases c <;> rfl

@[simp] theorem Place.claim_drop (p : Capture → Bool) (x : Place) : (x.drop p).claim = x.claim := by
  rw [Place.drop]; split <;> rfl

theorem vmap_vmap {α β γ : Type} {n : Nat} (f : α → β) (g : β → γ) (v : Vector α n) :
    vmap g (vmap f v) = vmap (fun x => g (f x)) v := by
  simp [vmap]

theorem vmap_congr {α β : Type} {n : Nat} {f g : α → β} {v : Vector α n} (h : ∀ k, f (v.get k) = g (v.get k)) :
    vmap f v = vmap g v := by
  unfold vmap
  congr 2
  apply List.map_congr_left
  intro x hx
  obtain ⟨i, hi, rfl⟩ := List.getElem_of_mem hx
  simpa [Vector.get_eq_getElem] using h ⟨i, by simpa using hi⟩

theorem vector_ext {α : Type} {n : Nat} {v w : Vector α n} (h : ∀ k, v.get k = w.get k) : v = w := by
  ext i hi
  simpa [Vector.get_eq_getElem] using h ⟨i, hi⟩

theorem vmap_eq_self {α : Type} {n : Nat} {f : α → α} {v : Vector α n} (h : ∀ k, f (v.get k) = v.get k) : vmap f v = v :=
  vector_ext fun k => by rw [get_vmap, h]

/-- How many of a fixed number of like things satisfy a test, by their indexes. -/
theorem vcount_eq {α : Type} {n : Nat} (p : α → Bool) (v : Vector α n) :
    vcount p v = ((List.finRange n).filter fun k => p (v.get k)).length := by
  have h : v.toList = (List.finRange n).map v.get := by
    apply List.ext_getElem <;> simp [Vector.get_eq_getElem]
  rw [vcount, h, List.countP_map, List.countP_eq_length_filter]; rfl

theorem vcount_congr {α β : Type} {n : Nat} {p : α → Bool} {q : β → Bool} {v : Vector α n} {w : Vector β n}
    (h : ∀ k, p (v.get k) = q (w.get k)) : vcount p v = vcount q w := by
  simp [vcount_eq, h]

/-- Where fewer than all of n like things satisfy a test, one of them does not. -/
theorem exists_of_vcount_lt {α : Type} {n : Nat} {p : α → Bool} {v : Vector α n} (h : vcount p v < n) :
    ∃ k, p (v.get k) = false := by
  by_contra hc
  push Not at hc
  have : vcount p v = n := by
    rw [vcount_eq, List.filter_eq_self.2]
    · simp
    · intro k _; simpa using hc k
  omega

namespace State

variable (s : State)

theorem dropCaptures_dropCaptures (p q : Capture → Bool) :
    (s.dropCaptures p).dropCaptures q = s.dropCaptures fun c => p c || q c := by
  simp only [dropCaptures, vmap_vmap, Place.drop_drop]

theorem dropCaptures_congr {p q : Capture → Bool} (h : ∀ k c, s.holdsCapture k c → p c = q c) :
    s.dropCaptures p = s.dropCaptures q := by
  have : vmap (Place.drop p) s.captures = vmap (Place.drop q) s.captures := by
    apply vmap_congr
    intro k
    rw [Place.drop_eq, Place.drop_eq]
    cases hc : (s.captures.get k).capture with
    | none => rfl
    | some c => simp only; rw [h k c hc]
  rw [dropCaptures, dropCaptures, this]

theorem findCapture_eq_none {test : Capture → Bool} (h : ∀ k c, s.holdsCapture k c → test c = false) :
    s.findCapture test = none := by
  have : vfind (fun p : Place => p.holds test) s.captures = none := by
    rw [vfind_none]
    intro k
    simp only [Place.holds]
    cases hc : (s.captures.get k).capture with
    | none => rfl
    | some c => exact h k c hc
  simp [findCapture, this]

theorem findCapture_eq_some {test : Capture → Bool} {k : Fin 8} {c : Capture} (hk : s.holdsCapture k c)
    (hc : test c = true) (hu : ∀ j d, s.holdsCapture j d → test d = true → j = k) :
    s.findCapture test = some (k, c) := by
  have : vfind (fun p : Place => p.holds test) s.captures = some k := by
    apply vfind_eq_of_unique
    · simp only [Place.holds]; rw [hk]; exact hc
    · intro j hj
      simp only [Place.holds] at hj
      cases hd : (s.captures.get j).capture with
      | none => simp [hd] at hj
      | some d => rw [hd] at hj; exact hu j d hd hj
  simp only [findCapture, this]
  rw [hk]

theorem findCapture_some {test : Capture → Bool} {k : Fin 8} {c : Capture} (h : s.findCapture test = some (k, c)) :
    s.holdsCapture k c ∧ test c = true := by
  unfold findCapture at h
  split at h
  · rename_i j hj
    split at h
    · rename_i d hd
      simp only [Option.some.injEq, Prod.mk.injEq] at h
      obtain ⟨rfl, rfl⟩ := h
      refine ⟨hd, ?_⟩
      have := vfind_some hj
      simpa [Place.holds, hd] using this
    · simp at h
  · simp at h

/-! ### The acceptance order -/

theorem arrive_of_receives {r : Request} (h : s.Receives r) : s.arrive r = s.process r := by
  simp [arrive, h.wellFormed, h.up, h.fresh]

theorem findCapture_isBoth {r : Request} {a : Addr} {hint : Hint} (hk : r.kind = .read a .b4 hint)
    (h : s.Unanswered r) : s.latchStep r a = (false, s.lookedUp r) := by
  unfold latchStep
  have hf : r.forgets = fun c => c.splitFor r.initiator (wordOf a) || c.recordsTag r.initiator r.tag := by
    funext c; simp [Request.forgets, hk, Bool.or_comm]
  split
  · rename_i hn
    have hno : ∀ k c, s.holdsCapture k c → c.splitFor r.initiator (wordOf a) = false := by
      intro k c hc
      by_contra hx
      simp only [Bool.not_eq_false] at hx
      unfold findCapture at hn
      split at hn
      · rename_i j hj
        have := vfind_some hj
        simp only [Place.holds] at this
        cases hd : (s.captures.get j).capture with
        | none => simp [hd] at this
        | some d => simp [hd] at hn
      · rename_i hj
        have := vfind_none.1 hj k
        simp only [Place.holds] at this
        rw [hc] at this
        simp [hx] at this
    rw [Prod.mk.injEq]
    refine ⟨rfl, ?_⟩
    rw [reuseTag, lookedUp, hf]
    apply dropCaptures_congr
    intro k c hc; simp [hno k c hc]
  · rename_i k c hc
    obtain ⟨h1, h2⟩ := s.findCapture_some hc
    have := h k c h1
    rw [hk] at this
    simp only [this.2 rfl h2, if_true, Prod.mk.injEq, true_and]
    rw [reuseTag, dropCaptures_dropCaptures, lookedUp, hf]

/-- A lookup that answers nothing removes the captures the request forgets, and nothing else (R106). -/
theorem lookup_of_unanswered {r : Request} (h : s.Unanswered r) : s.lookup r = (false, s.lookedUp r) := by
  obtain ⟨i, t, k⟩ := r
  cases k with
  | read a size hint =>
    have hn : s.findCapture (fun c => c.recordsRead i t a size) = none :=
      s.findCapture_eq_none fun k c hc => (h k c hc).1
    simp only [lookup, hn]
    split
    · rename_i hs
      subst hs
      exact s.findCapture_isBoth rfl h
    · rename_i hs
      simp only [reuseTag, lookedUp, Prod.mk.injEq, true_and]
      congr 1
      funext c
      simp [Request.forgets, hs]
  | write | lockedRead | lockedWrite | lockDrop | fence | discard =>
    simp only [lookup, reuseTag, lookedUp, Prod.mk.injEq, true_and]
    congr 1
    funext c
    simp [Request.forgets]

theorem unanswered_of_not_read {r : Request} (h : ∀ a size hint, r.kind ≠ .read a size hint) : s.Unanswered r := by
  intro k c _
  cases hk : r.kind <;> simp_all

/-- An arrival that the lookup does not answer goes on through the acceptance order (R164). -/
theorem exec_command_of_receives {r : Request} (h : s.Receives r) (hu : s.Unanswered r) :
    exec r.command s =
      .next
        (if s.decisionDue ((s.lookedUp r).accept r) = true then ((s.lookedUp r).accept r).judge
         else (s.lookedUp r).accept r) := by
  rw [exec_command, s.arrive_of_receives h, process, s.lookup_of_unanswered hu]
  rfl

/-- An arrival that takes nothing into a queue and moves no head is settled (R72, R119). -/
theorem decide_settled {u : State} (h1 : u.fabric.nextSeq = s.fabric.nextSeq)
    (h2 : s.posting.head?.map (·.state) = u.posting.head?.map (·.state)) :
    (if s.decisionDue u = true then u.judge else u) = s.settled u := by
  simp [decisionDue, enteredWait, headMoved, settled, h1, h2]

/-- The taking of a request into the Wait List is an event of R72. -/
theorem decide_taken {u : State} (h1 : u.fabric.nextSeq = s.fabric.nextSeq + 1)
    (h2 : u.posting.length = s.posting.length) : (if s.decisionDue u = true then u.judge else u) = u.judge := by
  simp [decisionDue, enteredWait, h1, h2]

/-! ### The conflict check and the ownership of slots -/

theorem lockedByOther_iff (u : LockUnit) (i : Initiator) (line : Addr) :
    u.lockedByOther i line = true ↔ ∃ k, (u.slots.get k).line = some line ∧ (u.slots.get k).owner ≠ some i := by
  rw [LockUnit.lockedByOther, toList_any_iff]; simp

theorem ownsLine_iff (u : LockUnit) (i : Initiator) (line : Addr) :
    u.ownsLine i line = true ↔ ∃ k, (u.slots.get k).line = some line ∧ (u.slots.get k).owner = some i := by
  rw [LockUnit.ownsLine, toList_any_iff]; simp

theorem shutOut_iff (i : Initiator) (line : Addr) : s.locks.lockedByOther i line = true ↔ s.ShutOut i line :=
  lockedByOther_iff _ _ _

theorem not_shutOut_iff (i : Initiator) (line : Addr) : s.locks.lockedByOther i line = false ↔ ¬ s.ShutOut i line := by
  rw [← shutOut_iff]; simp

theorem ownsLine_iff' (i : Initiator) (line : Addr) : s.locks.ownsLine i line = true ↔ s.OwnsLine i line :=
  ownsLine_iff _ _ _

theorem not_ownsLine_iff (i : Initiator) (line : Addr) : s.locks.ownsLine i line = false ↔ ¬ s.OwnsLine i line := by
  rw [← ownsLine_iff']; simp

theorem ownedBy_eq_none_iff (i : Initiator) : s.locks.ownedBy i = none ↔ s.OwnsNone i := by
  rw [LockUnit.ownedBy, vfind_none]; simp [OwnsNone]

theorem ownedBy_eq_some {i : Initiator} {k : Fin 2} (hk : (s.locks.slots.get k).owner = some i)
    (hu : ∀ j, (s.locks.slots.get j).owner = some i → j = k) : s.locks.ownedBy i = some k :=
  vfind_eq_of_unique (by simpa using hk) (by simpa using hu)

theorem reservedAgainst_iff (i : Initiator) (w : Wanted) :
    s.progress.reservedAgainst i w = true ↔ s.ReservedFrom i w := by
  unfold ProgressMonitor.reservedAgainst ReservedFrom
  cases h : s.progress.favoured <;> simp

theorem not_reservedAgainst_iff (i : Initiator) (w : Wanted) :
    s.progress.reservedAgainst i w = false ↔ ¬ s.ReservedFrom i w := by
  rw [← reservedAgainst_iff]; simp

/-- Steps 5 to 7 let a request go on to its kind step where none of them refuses it (R164). -/
theorem preCheck_eq_none {r : Request} {c : Classification} {a : Addr} {nonPosted : Bool} (h1 : c.cls ≠ .blocked)
    (h2 : nonPosted = true → (s.fabric.outTags.get r.initiator).length < 4) (h3 : ¬ s.ShutOut r.initiator (lineOf a)) :
    s.preCheck r c a nonPosted = none := by
  have h4 := (not_shutOut_iff s _ _).2 h3
  have h5 : (nonPosted && decide (4 ≤ s.outstandingCount r.initiator)) = false := by
    cases nonPosted
    · rfl
    · exact decide_eq_false (Nat.not_le.2 (h2 rfl))
  simp only [preCheck, h1, if_false, h5, h4, Bool.false_eq_true]

theorem accept_read {i : Initiator} {t : Tag} {a : Addr} {size : Size} {hint : Hint}
    (h1 : (s.regions.active.classify a hint).cls ≠ .blocked) (h2 : (s.fabric.outTags.get i).length < 4)
    (h3 : ¬ s.ShutOut i (lineOf a)) :
    s.accept { initiator := i, tag := t, kind := .read a size hint } =
      s.kindRead { initiator := i, tag := t, kind := .read a size hint } (s.regions.active.classify a hint) a size := by
  simp only [accept]; rw [s.preCheck_eq_none h1 (fun _ => h2) h3]; rfl

theorem accept_write {i : Initiator} {t : Tag} {a : Addr} {size : Size} {hint : Hint} {data : List Byte}
    (h1 : (s.regions.active.classify a hint).cls ≠ .blocked)
    (h2 : (s.regions.active.classify a hint).cls = .device → (s.fabric.outTags.get i).length < 4)
    (h3 : ¬ s.ShutOut i (lineOf a)) :
    s.accept { initiator := i, tag := t, kind := .write a size hint data } =
      s.kindWrite { initiator := i, tag := t, kind := .write a size hint data } (s.regions.active.classify a hint) a size
        data := by
  simp only [accept]; rw [s.preCheck_eq_none h1 (fun h => h2 (by simpa using h)) h3]; rfl

theorem accept_lockedRead {i : Initiator} {t : Tag} {a : Addr} {size : Size}
    (h1 : (s.regions.active.classify a .none).cls ≠ .blocked) (h2 : (s.fabric.outTags.get i).length < 4)
    (h3 : ¬ s.ShutOut i (lineOf a)) :
    s.accept { initiator := i, tag := t, kind := .lockedRead a size } =
      s.kindLockedRead { initiator := i, tag := t, kind := .lockedRead a size } (s.regions.active.classify a .none) a
        size := by
  simp only [accept]; rw [s.preCheck_eq_none h1 (fun _ => h2) h3]; rfl

theorem accept_lockedWrite {i : Initiator} {t : Tag} {a : Addr} {size : Size} {data : List Byte}
    (h1 : (s.regions.active.classify a .none).cls ≠ .blocked) (h2 : (s.fabric.outTags.get i).length < 4)
    (h3 : ¬ s.ShutOut i (lineOf a)) :
    s.accept { initiator := i, tag := t, kind := .lockedWrite a size data } =
      s.kindLockedWrite { initiator := i, tag := t, kind := .lockedWrite a size data } (s.regions.active.classify a .none)
        a size data := by
  simp only [accept]; rw [s.preCheck_eq_none h1 (fun _ => h2) h3]; rfl

/-- An arrival the lookup does not answer, whose effects u take nothing into a queue and move no head. -/
theorem exec_settled {r : Request} {u : State} (h : s.Receives r) (hu : s.Unanswered r)
    (hk : (s.lookedUp r).accept r = u) (h1 : u.fabric.nextSeq = s.fabric.nextSeq)
    (h2 : s.posting.head?.map (·.state) = u.posting.head?.map (·.state)) : exec r.command s = .next (s.settled u) := by
  rw [s.exec_command_of_receives h hu, hk, s.decide_settled h1 h2]

/-- An arrival the lookup does not answer, which is taken into the Wait List. -/
theorem exec_taken {r : Request} {u : State} (h : s.Receives r) (hu : s.Unanswered r)
    (hk : (s.lookedUp r).accept r = u) (h1 : u.fabric.nextSeq = s.fabric.nextSeq + 1)
    (h2 : u.posting.length = s.posting.length) : exec r.command s = .next u.judge := by
  rw [s.exec_command_of_receives h hu, hk, s.decide_taken h1 h2]

end State

end Sys2Proof.Machine
end

