-- ==== Sys2Proof/Tests/Slice0.lean ====
section
/-! SUPPORT. The model's own tests: ill-formed commands are refused by the well-formedness check, single steps of the
spec's worked examples, and for every statement with hypotheses a state and operands that meet them. -/

namespace Sys2Proof.Tests

open Sys2Proof Sys2Proof.Machine

/-! ### Small states -/

/-- The state a command leaves. -/
def after (c : Instr) (s : State) : State :=
  match exec c s with
  | .next t => t
  | .fault _ => s
  | .refused _ => s

/-- Whether this is the last response sent. -/
def answered (s : State) (r : Response) : Bool := s.fabric.responses.getLast? == some r

/-- The entries of the example of 1.6. -/
def entryOf (base limit : Page) (cls : AccessClass) (profile : ProfileIndex) (mode : CaptureMode) (locking : Locking) :
    RegionEntry :=
  { valid := true, base := base, limit := limit
    settings := { cls := cls, profile := profile, captureMode := mode, locking := locking } }

/-- The Region Table of the example of 1.6; page 400h is added, of class POSTED. -/
def table : RegionTable :=
  { entries :=
      vset (vset (vset (vset (vset RegionTable.powerOn.entries 0 (entryOf 0x100 0x1FF .merge 0 .none .allowed))
        1 (entryOf 0x180 0x183 .device 2 .split .forbidden)) 2 (entryOf 0x182 0x182 .device 1 .none .allowed))
        3 (entryOf 0x1F0 0x1FF .blocked 0 .none .allowed)) 5 (entryOf 0x400 0x400 .posted 0 .none .allowed)
    defaultRegion := { cls := .device, profile := 3, captureMode := .none, locking := .allowed } }

/-- The link is UP at tick 100, the table is active and every gap is 0. -/
def live : State :=
  { State.reset with
    tick := 100
    fabric := { State.reset.fabric with link := .up }
    regions := { State.reset.regions with active := table }
    pacing :=
      { State.reset.pacing with profiles := Vector.replicate 4 { readGap := 0, writeGap := 0, turnaround := 0 } } }

def lineA : Addr := 0x0000150040
def word : Addr := 0x0000181010
def mailbox : Addr := 0x0000300000
def bytes (n : Nat) : List Byte := (List.range n).map (BitVec.ofNat 8)

/-- An entry for line A with its first 8 bytes, of initiator 2. -/
def entry (seq : Nat) (state : EntryState) : PostingEntry :=
  { seq := seq, line := lineA, mask := 0xFF, data := bytes 8 ++ List.replicate 24 0, cls := .merge, region := 0,
    profile := 0, contributors := [2], state := state, heldBehind := none,
    mergeExpiry := if state = .opened then some 132 else none, drainExpiry := some 612, overdue := false }

def access (kind : AccessKind) (a : Addr) (size : Size) (cls : AccessClass) (mode : CaptureMode) (claimed : Bool) :
    WaitAccess :=
  { kind := kind, address := a, size := size, cls := cls, region := 1, profile := 2, captureMode := mode,
    data := if kind.direction = .write then bytes size.bytes else [], waitsFor := [], claimed := claimed }

/-- A request of initiator 5, tag 9. -/
def request (seq : Nat) (state : WaitState) (a : WaitAccess) : WaitEntry :=
  { seq := seq, initiator := 5, tag := 9, state := state, work := .access a }

/-- The part with these entries and requests, whose tags are outstanding. -/
def holding (posting : List PostingEntry) (waiting : List WaitEntry) : State :=
  { live with
    posting := posting
    waiting := waiting
    fabric :=
      { live.fabric with
        nextSeq := 8
        outTags := vset live.fabric.outTags 5 (waiting.map (·.tag)) } }

/-- The port BUSY with access 3, to region 1, until tick 300. -/
def busy (operation : Direction) (q : Requester) (s : State) : State :=
  { s with
    port := { s.port with state := .busy { number := 3, operation := operation, region := 1, requester := q } 300 } }

def stalled (s : State) : State :=
  { s with
    port := { s.port with state := .stalled { number := 3, operation := .read, region := 1, requester := .none } } }

/-- A capture of initiator 2, in place 4. -/
def capturing (key : CaptureKey) (result : CaptureResult) (s : State) : State :=
  { s with
    captures :=
      vset s.captures 4
        { capture :=
            some { initiator := 2, key := key, result := result, data := bytes 8, expiry := 500 }
          claim := none } }

/-- A slot, in place 1. -/
def locked (slot : LockSlot) (s : State) : State := { s with locks := s.locks.put 1 slot }

/-- CS_N low, in this phase of a frame. -/
def framed (phase : FramePhase) (s : State) : State :=
  { s with pins := { s.pins with csLow := true }, mgmt := { s.mgmt with phase := phase } }

/-- A fault record is held. -/
def faulted (s : State) : State := s.handOver (.lateCompletion 3)

/-! ### Well-formedness -/

theorem test_read_misaligned : (Instr.read 0 0 0x1 .b2 .none).wellFormed = false := by decide
theorem test_write_misaligned : (Instr.write 0 0 0x1 .b2 .none (bytes 2)).wellFormed = false := by decide
theorem test_write_data_short : (Instr.write 0 0 0x0 .b4 .none (bytes 3)).wellFormed = false := by decide
theorem test_lockedRead_misaligned : (Instr.lockedRead 0 0 0x10 .b32).wellFormed = false := by decide
theorem test_lockedWrite_misaligned : (Instr.lockedWrite 0 0 0x4 .b8 (bytes 8)).wellFormed = false := by decide
theorem test_lockedWrite_data_long : (Instr.lockedWrite 0 0 0x0 .b8 (bytes 9)).wellFormed = false := by decide
theorem test_malformed_length : (Instr.malformedRequest 0 [0]).wellFormed = false := by decide
theorem test_malformed_decodes : (Instr.malformedRequest 0x200 []).wellFormed = false := by decide
theorem test_discarded_length : (Instr.frameDiscardedInReset 0 [0]).wellFormed = false := by decide
theorem test_completion_length : (Instr.completion 0 (List.replicate 256 0)).wellFormed = false := by
  simp only [Instr.wellFormed, List.length_replicate, decide_eq_false_iff_not]; omega
theorem test_badCommand_defined : (Instr.badCommand 0x5A).wellFormed = false := by decide

/-! ### The example of 1.6 -/

def record (a : Addr) (hint : Hint) : AccessClass × RegionIndex × ProfileIndex × CaptureMode × Locking :=
  let c := table.classify a hint
  (c.cls, c.region, c.profile, c.captureMode, c.locking)

theorem test_classify_1 : record 0x0000150040 .none = (.merge, 0, 0, .none, .allowed) := by decide
theorem test_classify_2 : record 0x0000150040 .device = (.device, 0, 0, .none, .allowed) := by decide
theorem test_classify_3 : record 0x0000182008 .none = (.device, 1, 2, .split, .forbidden) := by decide
theorem test_classify_4 : record 0x0000182008 .posted = (.device, 1, 2, .split, .forbidden) := by decide
theorem test_classify_5 : record 0x0000181000 .none = (.device, 1, 2, .split, .forbidden) := by decide
theorem test_classify_6 : (record 0x00001F4000 .none).1 = .blocked := by decide
theorem test_classify_7 : record 0x0000300000 .posted = (.device, 16, 3, .none, .allowed) := by decide

/-! ### Requests -/

theorem test_posted :
    ((after (.write 2 1 lineA .b8 .none (bytes 8)) live).posting.map fun e =>
      (e.seq, e.state, e.mask, e.contributors, e.mergeExpiry)) = [(0, .opened, 0xFF, [2], some 132)] := by decide

theorem test_merged :
    ((after (.write 4 3 (lineA + 8) .b4 .none (bytes 4)) (holding [entry 1 .opened] [])).posting.map fun e =>
      (e.seq, e.state, e.mask, e.contributors, e.mergeExpiry)) = [(1, .opened, 0xFFF, [2, 4], some 132)] := by decide

theorem test_forwarded :
    let s := after (.read 5 0 lineA .b8 .none) (holding [entry 1 .opened] [])
    answered s { bareResponse 5 0 .done with source := some .queue, data := bytes 8 } ∧ s.waiting = [] := by decide

theorem test_read_seals_and_drains :
    let s := after (.read 5 1 lineA .b32 .none) (holding [entry 1 .opened] [])
    (s.posting.map (·.state)) = [.issued] ∧ (s.waiting.map (·.state)) = [.waiting] ∧
      (s.port.accesses.map fun a => (a.number, a.operation, a.address, a.mask)) = [(0, .write, lineA, 0xFF)] := by
  decide

theorem test_split_read_issues :
    let s := after (.read 2 1 word .b4 .none) live
    (s.port.accesses.map fun a => (a.operation, a.address, a.size)) = [(.read, word, .b8)] ∧ s.placesInUse = 1 := by
  decide

theorem test_latch :
    let s := after (.read 2 1 (word + 4) .b4 .none) (capturing (.split word (some 1) none) .ok live)
    answered s { bareResponse 2 1 .done with source := some .latch, data := (bytes 8).drop 4 } := by decide

theorem test_replay :
    let s := after (.read 2 1 (word + 4) .b4 .none) (capturing (.split word (some 1) (some 1)) .ok live)
    answered s { bareResponse 2 1 .replayed with data := (bytes 8).drop 4 } := by decide

theorem test_lock_pending :
    let s := after (.lockedRead 1 2 mailbox .b4) live
    s.locks.slots.get 0 = .pending 1 mailbox 0 ∧ (s.waiting.map (·.state)) = [.issued] := by decide

theorem test_line_locked :
    answered (after (.write 4 7 (mailbox + 4) .b4 .none (bytes 4)) (locked (.pending 1 mailbox 0) live)) { bareResponse 4 7 .retry with reason := some .lineLocked } := by decide

theorem test_lock_closing :
    (after (.lockedWrite 1 3 mailbox .b4 (bytes 4)) (locked (.held 1 mailbox 7040) live)).locks.slots.get 1 =
      .closing 1 mailbox 0 := by decide

theorem test_lock_drop :
    let s := after (.lockDrop 1 3) (locked (.held 1 mailbox 7040) live)
    s.locks.slots.get 1 = .free ∧ answered s (bareResponse 1 3 .done) := by decide

theorem test_fence :
    answered (after (.fence 2 4) live) (bareResponse 2 4 .done) ∧
      ((after (.fence 2 4) (holding [entry 1 .opened] [])).waiting.map (·.work)) = [.fence [1] []] := by decide

theorem test_discard : (after (.discard 2 1) (capturing (.split word (some 1) none) .ok live)).placesInUse = 0 := by decide

/-- A header with an undefined kind code. -/
theorem test_malformed : answered (after (.malformedRequest 0x780 []) live) (bareResponse 0 0 .malformed) := by decide

/-- The header of initiator 2, tag 1: WRITE 0000150040h, size 8, hint NONE, 8 bytes of data. -/
theorem test_frame_write :
    decodeRequest 0x000015004010E08A (bytes 8) =
      some { initiator := 2, tag := 1, kind := .write lineA .b8 .none (bytes 8) } := by decide

/-- The header of initiator 5, tag 9: DISCARD. -/
theorem test_frame_discard :
    decodeRequest 0x34D [] = some { initiator := 5, tag := 9, kind := .discard } := by decide

/-- RETRY, reason RESERVED, to initiator 3, tag 2 (12.2). -/
theorem test_frame_response :
    Response.frame { bareResponse 3 2 .retry with reason := some .reserved } = [0x93, 0x21, 0x00, 0x00] := by decide

theorem test_frame_discarded : after (.frameDiscardedInReset 0x34D []) State.reset = State.reset := by rfl

theorem test_link_reset :
    let s := after .linkReset (busy .read (.request 1) (holding [] [request 1 .issued (access .read word .b4 .device .split true)]))
    s.waiting = [] ∧ s.port.state = .busy { number := 3, operation := .read, region := 1, requester := .orphan } 300 := by
  decide

theorem test_link_up : (after .linkUp State.reset).fabric.link = .up := by decide

/-! ### Completions and expiries -/

theorem test_completion_head :
    let s := after (.completion 0x03 []) (busy .write .head (holding [entry 1 .issued] []))
    s.posting = [] ∧ s.port.state = .ready ∧ s.faults.records = [] := by decide

theorem test_completion_head_error :
    ((after (.completion 0x13 []) (busy .write .head (holding [entry 1 .issued] []))).faults.records.map (·.body)) =
      [.writeError [2] lineA 0xFF] := by decide

theorem test_completion_request :
    let s := after (.completion 0x03 (bytes 8))
      (busy .read (.request 1) (holding [] [request 1 .issued (access .read (word + 4) .b4 .device .split false)]))
    answered s { bareResponse 5 9 .done with source := some .memory, data := (bytes 8).drop 4 } := by decide

theorem test_completion_late :
    ((after (.completion 0x07 []) live).faults.records.map (·.body)) = [.lateCompletion 7] := by decide

theorem test_memory_timeout :
    let s := after .memoryTimerExpiry
      (busy .read (.request 1) (holding [] [request 1 .issued (access .read word .b4 .device .none false)]))
    s.tick = 300 ∧ answered s (bareResponse 5 9 .portTimeout) := by decide

theorem test_merge_expiry :
    let s := after (.mergeTimerExpiry 1) (busy .read .orphan (holding [entry 1 .opened] []))
    s.tick = 132 ∧ (s.posting.map (·.state)) = [.sealed] := by decide

theorem test_drain_expiry_waits_its_turn :
    (after (.drainTimerExpiry 1) (holding [entry 1 .opened] [])).tick = 100 := by decide

theorem test_retention_expiry :
    let s := after (.retentionTimerExpiry 4) (capturing (.split word (some 1) none) .ok live)
    s.tick = 500 ∧ s.placesInUse = 0 := by decide

theorem test_lock_expiry :
    let s := after (.lockTimerExpiry 1) (locked (.held 1 mailbox 7040) live)
    s.tick = 7040 ∧ s.locks.markers.get 1 = some mailbox ∧ (s.faults.records.map (·.body)) = [.lockBroken 1 mailbox] := by
  decide

theorem test_reservation_expiry :
    let s := after .reservationTimerExpiry
      { live with progress := { live.progress with favoured := [3, 5], wanted := .queueEntry, reservation := some 200 } }
    s.progress.favoured = [5] ∧ s.progress.wanted = .none ∧ s.progress.reservation = some 1200 := by decide

theorem test_pacing_expiry :
    let s := { holding [entry 1 .sealed] [] with
      pacing := { live.pacing with kept := [{ candidate := .head, region := 0, tick := 150 }] } }
    (after (.pacingExpiry 0) s).tick = 150 ∧ ((after (.pacingExpiry 0) s).posting.map (·.state)) = [.issued] := by decide

/-! ### The Management Port -/

theorem test_status :
    (after .status (framed .command (stalled (faulted live)))).mgmt.phase =
      .response (some .status) [0x00, 0x5B, 0x03, 0x40, 0x01, 0x02, 0, 0, 0, 0, 0, 1] 0 := by decide

theorem test_pop_fault :
    (after .popFault (framed .command (faulted live))).mgmt.phase =
      .response (some .popFault)
        [0x00, 0x00, 0x00, 0x04, 0xFF, 0xFF, 0xFF, 0xFF, 0xFF, 0xFF, 0xFF, 0xFF, 0xFF, 0xFF, 0xFF, 0x03, 0xFF, 0x00] 0 := by
  decide

theorem test_abandon_refused :
    (after .abandon (framed .command live)).mgmt.phase = .response (some .abandon) [0x04] 0 := by decide

theorem test_commit_issues_nothing :
    (after .commit (framed .command (holding [entry 1 .opened] []))).mgmt.phase = .response (some .commit) [0x00] 0 := by
  decide

theorem test_soft_reset :
    let s := after .softReset (framed .command (holding [entry 1 .opened] [request 2 .waiting (access .read word .b4 .device .none false)]))
    answered s (bareResponse 5 9 .abandoned) ∧ (s.faults.records.map (·.body)) = [.discarded 1] := by decide

theorem test_bad_command :
    (after (.badCommand 0x7F) (framed .command live)).mgmt.phase = .response none [0x01] 0 := by decide

/-- No tick samples RESET_N while REFCLK is stopped (R200, R201). -/
def stopped (s : State) : State := { s with pins := { s.pins with refclkRunning := false } }

theorem test_reset_unseen :
    after .powerOnReset (stopped live) = stopped live ∧
      after (.powerOnResetEnd true) (stopped (after .powerOnReset live)) = stopped (after .powerOnReset live) := by decide

/-- Before the first power-on reset MISO is high impedance (R201). -/
def unreset (s : State) : State := { s with pins := { s.pins with hadReset := false } }

theorem test_miso_high_impedance :
    (after .status (framed .command (unreset live))).mgmt.miso = [] ∧
      (after .status (framed .command live)).mgmt.miso = [0xFF] := by decide

theorem test_ignored_byte : (after .softReset (framed .ignore live)).mgmt = { live.mgmt with phase := .ignore, miso := [0xFF] } := by
  decide

theorem test_region_encoding :
    (entryOf 0x180 0x183 .device 2 .split .forbidden).encode = [1, 0, 0, 1, 0x80, 0, 0, 1, 0x83, 2, 2, 1, 1] := by decide

/-- A 32-byte masked write with access number 3 (12.3). -/
theorem test_access_frame :
    Access.frame { number := 3, operation := .write, address := lineA, size := .b32, mask := 0xFF, data := bytes 32 } =
      [0xB3, 0x40, 0x00, 0x15, 0x00, 0x00, 0xFF, 0x00, 0x00, 0x00] ++ bytes 32 := by decide

theorem test_power_on_end : (after (.powerOnResetEnd true) (after .powerOnReset live)).pins.mcDiscard = true := by decide

/-! ### The hypotheses of the statements are met

One theorem for each statement with hypotheses, with a clause of its own for each of the statement's cases, at the ends of
the ranges where a case has one. -/

theorem witness_StepRunsTheFrontCommand : { live with pending := [.linkUp, .status] }.pending = .linkUp :: [.status] := rfl

theorem witness_TimersAndTicksPassOnTheClock :
    (State.reset.pending = [] ∧ State.reset.pins.resetLow = false ∧ State.reset.pins.refclkRunning = true ∧
      ∀ p ∈ State.reset.timers, State.reset.tick < p.1) ∧
    (∃ p ∈ { locked (.held 1 mailbox 100) live with pending := [] }.timers, p.1 ≤ live.tick) ∧
    { live with pins := { live.pins with refclkRunning := false } }.pins.refclkRunning = false ∧
    (∀ aw e, live.port.state ≠ .busy aw e) ∧ (∀ k, (live.captures.get k).capture = none) ∧
    (∀ k o line e, live.locks.slots.get k ≠ .held o line e) ∧ live.progress.reservation = none ∧
    (∀ e ∈ (holding [entry 1 .sealed] []).posting, e.seq = 1 → e.mergeExpiry = none) ∧ live.pacing.kept = [] := by
  refine ⟨⟨rfl, rfl, rfl, by decide⟩, by decide, rfl, ?_, by decide, ?_, rfl, by decide, rfl⟩
  · intro aw e h; cases h
  · intro k o line e
    rw [show live.locks.slots.get k = .free by revert k; decide]
    exact fun h => by cases h

theorem witness_PowerOnResetBeginsAndEnds :
    live.pins.refclkRunning = true ∧ (stopped live).pins.refclkRunning = false ∧
    (after .powerOnReset live).pins.refclkRunning = true ∧ (after .powerOnReset live).pins.resetLow = true ∧ live.pins.resetLow = false ∧
      (after (.powerOnResetEnd true) (after .powerOnReset live)).pins.mcDiscard = true := by decide

/-- Page 180h is the base page of entry 1, 183h its limit page, 182h is covered by entries 0, 1 and 2, and page 17Fh by
entry 0 alone; page 300h is covered by none. -/
theorem witness_ClassificationFollowsTheTable :
    let m : Addr → Fin 16 → Prop := fun a k =>
      (table.entries.get k).valid = true ∧ (table.entries.get k).base.toNat ≤ a.toNat / 4096 ∧
        a.toNat / 4096 ≤ (table.entries.get k).limit.toNat
    (m 0x0000180000 1 ∧ m 0x0000183FFF 1 ∧ ¬ m 0x000017FFFF 1 ∧ ¬ m 0x0000184000 1) ∧
    (m 0x0000182008 0 ∧ m 0x0000182008 1 ∧ m 0x0000182008 2) ∧ ∀ k, ¬ m 0x0000300000 k := by
  refine ⟨by decide, by decide, ?_⟩
  intro k
  show ¬ (_ ∧ _ ∧ _)
  revert k
  decide

theorem witness_AtCommand : (framed .command live).AtCommand := ⟨rfl, rfl⟩

/-- The shadow table holds the active table's contents, with a default region of class MERGE and mode SPLIT. -/
def invalidShadow : State :=
  { live with
    regions :=
      { live.regions with
        shadow :=
          { table with
            defaultRegion := { cls := .merge, profile := 0, captureMode := .split, locking := .allowed } } } }

theorem witness_CommitInstallsAValidTable :
    ((framed .command invalidShadow).AtCommand ∧ invalidShadow.regions.shadow.failingIndex = some 16) ∧
    ((framed .command live).AtCommand ∧ live.regions.shadow.failingIndex = none) :=
  ⟨⟨⟨rfl, rfl⟩, by decide⟩, ⟨rfl, rfl⟩, by decide⟩

/-- Twelve bytes of an encoding and the last: a valid entry for the whole address space. -/
def wholeSpace : RegionEntry := entryOf 0 0xFFFFFFF .device 3 .split .forbidden

theorem witness_RegionsAreReadAndWritten :
    (∀ code, (framed (.arguments .readRegion [code]) live).AtLastArgument .readRegion [code]) ∧
    (16 < (0x11 : Byte).toNat ∧ (0x10 : Byte).toNat ≤ 16 ∧ 1 < (0x02 : Byte).toNat) ∧
    (∀ index : Byte,
      (framed (.arguments .writeRegion (index :: wholeSpace.encode.take 12)) live).AtLastArgument .writeRegion
        (index :: wholeSpace.encode.take 12)) ∧
    ((0x0F : Byte).toNat = (15 : Fin 16).val ∧ wholeSpace.encode.take 12 ++ [0x01] = wholeSpace.encode) ∧
    (wholeSpace.encode.take 12 ++ [0x01]).drop 9 = wholeSpace.settings.encode ∧
    (∀ e : RegionEntry, 0x02 :: (wholeSpace.encode.take 12).drop 1 ++ [0x01] ≠ e.encode) ∧
    ∀ d : RegionSettings, (wholeSpace.encode.take 12 ++ [0x02]).drop 9 ≠ d.encode := by
  refine ⟨fun _ => ⟨rfl, rfl, rfl⟩, by decide, fun _ => ⟨rfl, rfl, rfl⟩, ⟨rfl, by decide⟩, by decide, ?_, ?_⟩
  · intro e h
    have := congrArg List.head? h
    cases hv : e.valid <;> simp [RegionEntry.encode, hv] at this
  · intro d h
    have : ((wholeSpace.encode.take 12 ++ [0x02]).drop 9).getD 3 0 = d.locking.code := congrArg (·.getD 3 0) h
    revert this
    generalize d.locking = l
    cases l <;> decide

theorem witness_FramesStartAndEnd :
    (live.pins.csLow = false ∧ live.pins.resetLow = false ∧ live.mgmt.phase = .idle) ∧
    (after .powerOnReset live).pins.resetLow = true ∧
    ((framed .command live).pins.csLow = true ∧ ∀ l, (framed .command live).mgmt.phase ≠ .trailing (some .popFault) (0x00 :: l)) ∧
    ((framed (.trailing (some .popFault) [0x00]) (faulted live)).pins.csLow = true ∧
      ∃ r, (faulted live).faults.records = r :: []) := by
  refine ⟨⟨rfl, rfl, rfl⟩, by decide, ⟨rfl, ?_⟩, rfl, _, rfl⟩
  intro l h
  cases h

theorem witness_CommandBytesAreTakenAndAnswered :
    (framed (.arguments .writeLimit [0x01]) live).mgmt.phase = .arguments .writeLimit [0x01] ∧ [0x01#8].length + 1 < 3 ∧
    ((framed .ignore live).pins.csLow = true ∧ (framed .ignore live).mgmt.phase = .ignore ∧
      (after .frameStart (after .powerOnReset live)).pins.csLow = true ∧
      (after .frameStart (after .powerOnReset live)).mgmt.phase = .idle ∧ mosiByte .softReset = some 0x5A) ∧
    (unreset live).pins.hadReset = false ∧
    (framed (.response (some .abandon) [0x04] 0) live).mgmt.phase = .response (some .abandon) [0x04] 0 ∧
    (framed (.trailing (some .abandon) [0x04]) live).mgmt.phase = .trailing (some .abandon) [0x04] ∧
    0x02#8 ∉ [0x01#8, 0x10#8, 0x11#8, 0x12#8, 0x13#8, 0x20#8, 0x21#8, 0x30#8, 0x31#8, 0x40#8, 0x50#8, 0x5A#8] := by
  refine ⟨rfl, by decide, by decide, rfl, rfl, rfl, by decide⟩

/-- The retry threshold's range is 1 to 15: 0 and 16 lie outside it. The gap bytes take every value. -/
theorem witness_ProfilesAndLimitsAreReadAndWritten :
    (framed (.arguments .readProfile []) live).AtLastArgument .readProfile [] ∧
    (framed (.arguments .writeProfile [0x03, 0xFF, 0x00]) live).AtLastArgument .writeProfile [0x03, 0xFF, 0x00] ∧
    (3 < (0x04 : Byte).toNat ∧ (0x03 : Byte).toNat = (3 : Fin 4).val ∧ 15 < (0x10 : Byte).toNat ∧
      (15 : Fin 16).val = (0x0F : Byte).toNat) ∧
    (framed (.arguments .readLimit []) live).AtLastArgument .readLimit [] ∧
    (framed (.arguments .writeLimit [0x01, 0x00]) live).AtLastArgument .writeLimit [0x01, 0x00] ∧
    ((0x00 : Byte).toNat = 0 ∧ 8 < (0x09 : Byte).toNat ∧ (0x00 : Byte).toNat * 256 + (0x00 : Byte).toNat < 1 ∧
      15 < (0x00 : Byte).toNat * 256 + (0x10 : Byte).toNat ∧ 1 ≤ (0x00 : Byte).toNat * 256 + (0x01 : Byte).toNat ∧
      (0x00 : Byte).toNat * 256 + (0x0F : Byte).toNat ≤ 15) :=
  ⟨⟨rfl, rfl, rfl⟩, ⟨rfl, rfl, rfl⟩, by decide, ⟨rfl, rfl, rfl⟩, ⟨rfl, rfl, rfl⟩, by decide⟩

theorem witness_PopFaultReadsOutTheHead :
    (framed .command live).AtCommand ∧ live.faults.records = [] ∧ (∃ r, (faulted live).faults.records = r :: []) ∧
      ∀ (l : List Initiator) (n : Initiator), (initiatorBits l).getLsbD n.val = true ↔ n ∈ l :=
  ⟨⟨rfl, rfl⟩, rfl, ⟨_, rfl⟩, getLsbD_initiatorBits⟩

theorem witness_AbandonEndsAStall :
    (framed .command (stalled live)).AtCommand ∧ (∃ aw, (stalled live).port.state = .stalled aw) ∧
      ∀ aw, live.port.state ≠ .stalled aw :=
  ⟨⟨rfl, rfl⟩, ⟨_, rfl⟩, fun _ h => by cases h⟩

/-- A frame of each kind whose fields are those its row requires, and the kind codes that follow. -/
theorem witness_WellFormedFramesDecode :
    (headerDataLength 0x000015004010E08A = (bytes 8).length ∧ headerKind 0x000015004010E08A = 1) ∧
    (headerDataLength 0x34D = [].length (α := Byte) ∧ headerKind 0x34D = 6) ∧
    (decodeRequest 0x34D []).isSome = true ∧ (decodeRequest 0x3CD []).isSome = false ∧
    { bareResponse 5 9 .done with source := some .memory, data := bytes 32 }.data.length ≤ 32 := by decide

theorem witness_RequestFramesRoundTrip : (RequestKind.write lineA .b32 .device (bytes 32)).wellFormed = true := by decide

theorem witness_FramesAreDiscardedUntilLinkUp :
    (State.reset.fabric.link = .inReset ∧ State.reset.pins.resetLow = false) ∧ live.fabric.link = .up ∧
      (after .powerOnReset live).pins.resetLow = true := by decide

theorem witness_RequestsAreCheckedForFormAndTag :
    live.fabric.link = .up ∧ decodeRequest 0x780 [] = none ∧ (RequestKind.read 0x1 .b2 .none).wellFormed = false ∧
      (decodeRequest 0x34D []).isSome = true ∧
      9 ∈ (holding [] [request 1 .waiting (access .read word .b4 .device .none false)]).fabric.outTags.get 5 := by decide

theorem witness_ResponsesDriveTheProgressMonitor :
    { live with progress := { live.progress with favoured := [3, 5], reservation := some 200 } }.progress.favoured.Nodup := by
  decide

/-- A low half read of the word by initiator 2, tag 1, and the latch in state HALF. -/
def half : State := capturing (.split word (some 1) none) .ok live

theorem half_holds : half.holdsCapture 4 { initiator := 2, key := .split word (some 1) none, result := .ok, data := bytes 8, expiry := 500 } :=
  rfl

theorem noCaptureAt : ∀ k, live.captures.get k = Place.free := by decide

theorem freeSlotAt : ∀ k, live.locks.slots.get k = .free := by decide

theorem half_only {j : Fin 8} {c : Capture} (h : half.holdsCapture j c) : j = 4 ∧ c = { initiator := 2, key := .split word (some 1) none, result := .ok, data := bytes 8, expiry := 500 } := by
  rw [State.holdsCapture, half, capturing, get_vset] at h
  split at h
  · exact ⟨by assumption, (Option.some.inj h).symm⟩
  · rw [noCaptureAt] at h; cases h

theorem receives {r : Request} (hw : r.kind.wellFormed = true) : live.Receives r :=
  ⟨rfl, hw, by rw [show live.fabric.outTags.get r.initiator = [] by generalize r.initiator = i; revert i; decide]; simp⟩

theorem witness_ExactReissuesAreReplayed :
    half.Receives { initiator := 2, tag := 1, kind := .read word .b4 .none } ∧
      (∃ c, half.holdsCapture 4 c ∧ c.recordsRead 2 1 word .b4 = true) ∧
      ∀ j d, half.holdsCapture j d → d.recordsRead 2 1 word .b4 = true → j = 4 :=
  ⟨⟨rfl, by decide, by decide⟩, ⟨_, half_holds, by decide⟩, fun _ _ h _ => (half_only h).1⟩

/-- The high half of the latch's word is read; the tag is a new one. -/
theorem witness_LatchesAnswerTheOtherHalf :
    half.Receives { initiator := 2, tag := 3, kind := .read (word + 4) .b4 .none } ∧
      (∃ c, half.holdsCapture 4 c ∧ c.initiator = 2 ∧ c.key = .split (wordOf (word + 4)) (some 1) none) ∧
      (∀ j d, half.holdsCapture j d → d.recordsRead 2 3 (word + 4) .b4 = false) ∧
      ∀ j d, half.holdsCapture j d → d.splitFor 2 (wordOf (word + 4)) = true → j = 4 :=
  ⟨⟨rfl, by decide, by decide⟩, ⟨_, half_holds, rfl, by decide⟩, fun _ _ h => by rw [(half_only h).2]; decide,
    fun _ _ h _ => (half_only h).1⟩

theorem witness_DiscardRemovesTheCapturesOfItsTag : half.fabric.link = .up ∧ 1 ∉ half.fabric.outTags.get 2 := by decide

/-- Four requests of initiator 5 are outstanding. -/
def full : State :=
  { live with fabric := { live.fabric with outTags := vset live.fabric.outTags 5 [0, 1, 2, 3] } }

/-- Another initiator's lock covers a line; initiator 1 owns it. -/
def lockedOut : State := locked (.held 1 mailbox 7040) live

theorem noCaptures {s : State} (h : s.captures = live.captures) (r : Request) : s.Unanswered r := by
  intro k c hc
  rw [State.holdsCapture, h, noCaptureAt] at hc
  cases hc

theorem witness_ArrivalsAreCheckedInOrder :
    (full.Receives { initiator := 5, tag := 4, kind := .fence } ∧ 4 ≤ (full.fabric.outTags.get 5).length) ∧
    (live.Receives { initiator := 5, tag := 4, kind := .read 0x00001F4000 .b32 .none } ∧
      (live.regions.active.classify 0x00001F4000 .none).cls = .blocked) ∧
    ((full.regions.active.classify mailbox .none).cls = .device ∧ (RequestKind.read mailbox .b4 .none).posts .device = false) ∧
    (lockedOut.ShutOut 5 (lineOf mailbox) ∧ (lockedOut.fabric.outTags.get 5).length < 4) ∧
    ∀ r, full.Unanswered r ∧ live.Unanswered r ∧ lockedOut.Unanswered r :=
  ⟨⟨⟨rfl, rfl, by decide⟩, by decide⟩, ⟨receives (by decide), by decide⟩, by decide, ⟨⟨1, by decide⟩, by decide⟩,
    fun r => ⟨noCaptures rfl r, noCaptures rfl r, noCaptures rfl r⟩⟩

/-- A request that carries this address passes the steps before the kind step, but for its class. -/
def Passes (s : State) (r : Request) (a : Addr) : Prop :=
  s.Receives r ∧ s.Unanswered r ∧ (s.fabric.outTags.get r.initiator).length < 4 ∧ ¬ s.ShutOut r.initiator (lineOf a)

theorem passes {s : State} {r : Request} {a : Addr} (h1 : s.fabric.link = .up) (h2 : r.kind.wellFormed = true)
    (h3 : s.fabric.outTags.get r.initiator = []) (h4 : s.captures = live.captures)
    (h5 : s.locks.lockedByOther r.initiator (lineOf a) = false) : Passes s r a :=
  ⟨⟨h1, h2, by rw [h3]; exact List.not_mem_nil⟩, noCaptures h4 r, by rw [h3]; decide, (s.not_shutOut_iff _ _).1 h5⟩

theorem notReserved {s : State} (h : s.progress.favoured = []) (i : Initiator) (w : Wanted) : ¬ s.ReservedFrom i w :=
  fun ⟨_, _, hf, _⟩ => by rw [h] at hf; cases hf

/-- The youngest entry covers the bytes; it covers too few; the class is DEVICE. -/
theorem witness_ReadsAreForwardedOrTaken :
    (Passes (holding [entry 1 .opened] []) { initiator := 5, tag := 0, kind := .read lineA .b8 .none } lineA ∧
      (live.regions.active.classify lineA .none).cls = .merge ∧
      (holding [entry 1 .opened] []).QueueAnswers lineA .b8 (entry 1 .opened)) ∧
    (Passes (holding [entry 1 .opened] []) { initiator := 5, tag := 0, kind := .read lineA .b32 .none } lineA ∧
      ∀ e, ¬ (holding [entry 1 .opened] []).QueueAnswers lineA .b32 e) ∧
    (live.regions.active.classify lineA .device).cls = .device := by
  refine ⟨⟨passes rfl (by decide) (by decide) rfl (by decide), by decide, by decide, by decide, by decide⟩,
    ⟨passes rfl (by decide) (by decide) rfl (by decide), fun e h => ?_⟩, by decide⟩
  obtain rfl : entry 1 .opened = e := Option.some.inj h.1
  exact absurd h.2.1 (by decide)

theorem witness_PostedWritesMerge :
    Passes (holding [entry 1 .opened] []) { initiator := 4, tag := 3, kind := .write (lineA + 8) .b4 .none (bytes 4) }
      (lineA + 8) ∧
    (live.regions.active.classify (lineA + 8) .none).cls = .merge ∧
    ¬ (holding [entry 1 .opened] []).OwnsLine 4 (lineOf (lineA + 8)) ∧
    ∃ e ∈ (holding [entry 1 .opened] []).posting, e.isOpen = true ∧ e.line = lineOf (lineA + 8) :=
  ⟨passes rfl (by decide) (by decide) rfl (by decide), by decide, (State.not_ownsLine_iff _ _ _).1 (by decide),
    entry 1 .opened, by decide⟩

/-- This many entries for line A, all SEALED. -/
def entries (n : Nat) : State := holding ((List.range n).map fun k => entry k .sealed) []

/-- Initiator 3 is the head of the Favoured List and wants this. -/
def reserved (s : State) (w : Wanted) : State :=
  { s with progress := { s.progress with favoured := [3], wanted := w, reservation := some 200 } }

/-- A MERGE write with no OPEN entry, and a POSTED one: fifteen entries, sixteen, and fifteen with the next reserved. -/
theorem witness_PostedWritesCreateEntriesOrAreRefused :
    let r : Request := { initiator := 4, tag := 3, kind := .write lineA .b4 .none (bytes 4) }
    (live.regions.active.classify lineA .none).cls = .merge ∧ (live.regions.active.classify lineA .posted).cls = .posted ∧
    (∀ s, s = entries 15 ∨ s = entries 16 ∨ s = reserved (entries 15) .queueEntry →
      Passes s r lineA ∧ ¬ s.OwnsLine 4 (lineOf lineA) ∧ ∀ e ∈ s.posting, e.isOpen = true → e.line ≠ lineOf lineA) ∧
    ((entries 15).posting.length < 16 ∧ ¬ (entries 15).ReservedFrom 4 .queueEntry) ∧ 16 ≤ (entries 16).posting.length ∧
    ((reserved (entries 15) .queueEntry).posting.length < 16 ∧
      (reserved (entries 15) .queueEntry).ReservedFrom 4 .queueEntry) ∧
    (∃ e rest, (holding [entry 1 .opened] []).posting = e :: rest ∧ e.state = .opened ∧ e.line = lineOf lineA) ∧
    (live.posting = [] ∧ (entries 15).posting ≠ []) ∧
    (let a : Addr := 0x0000400010
     let q : Request := { initiator := 4, tag := 3, kind := .write a .b4 .none (bytes 4) }
     let s := capturing (.split a (some 1) none) .ok live
     (live.regions.active.classify a .none).cls = .posted ∧ s.Receives q ∧ ¬ s.ShutOut 4 (lineOf a) ∧
       ¬ s.OwnsLine 4 (lineOf a) ∧ ((s.lookedUp q).dropLatches a .b4).placesInUse < s.placesInUse) := by
  refine ⟨by decide, by decide, ?_, ⟨by decide, notReserved rfl _ _⟩, by decide, ⟨by decide, 3, [], rfl, by decide, rfl⟩,
    ⟨_, _, rfl, rfl, by decide⟩, by decide, by decide, ⟨rfl, rfl, by decide⟩,
    (State.not_shutOut_iff _ _ _).1 (by decide), (State.not_ownsLine_iff _ _ _).1 (by decide), by decide⟩
  rintro s (rfl | rfl | rfl) <;>
    exact ⟨passes rfl (by decide) (by decide) rfl (by decide), (State.not_ownsLine_iff _ _ _).1 (by decide), by decide⟩

/-- A DEVICE write with no lock on its line, and one of the owner of a lock on it. -/
theorem witness_DeviceWritesAreTaken :
    (Passes live { initiator := 4, tag := 3, kind := .write mailbox .b4 .none (bytes 4) } mailbox ∧
      (live.regions.active.classify mailbox .none).cls = .device ∧ ¬ live.OwnsLine 4 (lineOf mailbox)) ∧
    Passes lockedOut { initiator := 1, tag := 3, kind := .write mailbox .b4 .none (bytes 4) } mailbox ∧
    lockedOut.OwnsLine 1 (lineOf mailbox) :=
  ⟨⟨passes rfl (by decide) (by decide) rfl (by decide), by decide, (State.not_ownsLine_iff _ _ _).1 (by decide)⟩,
    passes rfl (by decide) (by decide) rfl (by decide), 1, by decide⟩

/-- Both slots are taken, by initiators 1 and 2. -/
def bothLocked : State := { lockedOut with locks := lockedOut.locks.put 0 (.pending 2 lineA 1) }

/-- The owner of a slot; a region that forbids locking; no FREE slot; a reservation of either kind; none. -/
theorem witness_LockedReadsFormLocks :
    (live.regions.active.classify mailbox .none).cls = .device ∧
    (live.regions.active.classify mailbox .none).locking = .allowed ∧
    (live.regions.active.classify word .none).locking = .forbidden ∧
    (Passes lockedOut { initiator := 1, tag := 3, kind := .lockedRead mailbox .b4 } mailbox ∧ ¬ lockedOut.OwnsNone 1) ∧
    (Passes live { initiator := 4, tag := 3, kind := .lockedRead word .b4 } word ∧ live.OwnsNone 4) ∧
    (Passes bothLocked { initiator := 4, tag := 3, kind := .lockedRead (mailbox + 32) .b4 } (mailbox + 32) ∧
      bothLocked.OwnsNone 4 ∧ ∀ k, bothLocked.locks.slots.get k ≠ .free) ∧
    (∀ s, s = live ∨ s = reserved live .lockSlot ∨ s = reserved live (.line (lineOf mailbox)) →
      Passes s { initiator := 4, tag := 3, kind := .lockedRead mailbox .b4 } mailbox ∧ s.OwnsNone 4 ∧
        ∃ k, s.locks.slots.get k = .free) ∧
    (reserved live .lockSlot).ReservedFrom 4 .lockSlot ∧
    (reserved live (.line (lineOf mailbox))).ReservedFrom 4 (.line (lineOf mailbox)) ∧
    ¬ (live.ReservedFrom 4 .lockSlot ∨ live.ReservedFrom 4 (.line (lineOf mailbox))) := by
  refine ⟨by decide, by decide, by decide, ⟨passes rfl (by decide) (by decide) rfl (by decide), fun h => absurd (by decide) (h 1)⟩,
    ⟨passes rfl (by decide) (by decide) rfl (by decide), (State.ownedBy_eq_none_iff _ _).1 (by decide)⟩,
    ⟨passes rfl (by decide) (by decide) rfl (by decide), (State.ownedBy_eq_none_iff _ _).1 (by decide), by decide⟩, ?_,
    ⟨3, [], rfl, by decide, rfl⟩, ⟨3, [], rfl, by decide, rfl⟩, not_or.2 ⟨notReserved rfl _ _, notReserved rfl _ _⟩⟩
  rintro s (rfl | rfl | rfl) <;>
    exact ⟨passes rfl (by decide) (by decide) rfl (by decide), (State.ownedBy_eq_none_iff _ _).1 (by decide), 0, by decide⟩

/-- Initiator 1's broken lock was on the mailbox's line. -/
def broken : State := { live with locks := live.locks.mark 1 (some (lineOf mailbox)) }

/-- A HELD slot on the line and on another; a PENDING and a CLOSING one; no slot with a marker for the line, for another,
and with none. -/
theorem witness_LockedWritesCloseLocks :
    (∀ s, s = lockedOut ∨ s = locked (.pending 1 mailbox 1) live ∨ s = locked (.closing 1 mailbox 1) live ∨ s = broken ∨ s = live →
      Passes s { initiator := 1, tag := 3, kind := .lockedWrite mailbox .b4 (bytes 4) } mailbox ∧
      Passes s { initiator := 1, tag := 3, kind := .lockedWrite (mailbox + 32) .b4 (bytes 4) } (mailbox + 32)) ∧
    (lockedOut.locks.slots.get 1 = .held 1 (lineOf mailbox) 7040 ∧ lineOf mailbox ≠ lineOf (mailbox + 32)) ∧
    (∀ slot, slot = LockSlot.held 1 mailbox 7040 ∨ slot = .pending 1 mailbox 1 ∨ slot = .closing 1 mailbox 1 →
      (locked slot live).locks.slots.get 1 = slot ∧ ∀ j, ((locked slot live).locks.slots.get j).owner = some 1 → j = 1) ∧
    (broken.OwnsNone 1 ∧ broken.locks.markers.get 1 = some (lineOf mailbox) ∧
      broken.locks.markers.get 1 ≠ some (lineOf (mailbox + 32))) ∧
    (live.OwnsNone 1 ∧ live.locks.markers.get 1 ≠ some (lineOf mailbox)) := by
  refine ⟨?_, by decide, ?_, ⟨(State.ownedBy_eq_none_iff _ _).1 (by decide), by decide⟩,
    (State.ownedBy_eq_none_iff _ _).1 (by decide), by decide⟩
  · rintro s (rfl | rfl | rfl | rfl | rfl) <;>
      exact ⟨passes rfl (by decide) (by decide) rfl (by decide), passes rfl (by decide) (by decide) rfl (by decide)⟩
  · rintro slot (rfl | rfl | rfl) <;> decide

theorem witness_LockDropEndsALock :
    (∀ s, s = lockedOut ∨ s = locked (.pending 1 mailbox 1) live ∨ s = locked (.closing 1 mailbox 1) live ∨ s = broken ∨ s = live →
      s.Receives { initiator := 1, tag := 3, kind := .lockDrop }) ∧
    (broken.OwnsNone 1 ∧ (broken.locks.markers.get 1).isSome = true) ∧
    (live.OwnsNone 1 ∧ live.locks.markers.get 1 = none) := by
  refine ⟨?_, ⟨(State.ownedBy_eq_none_iff _ _).1 (by decide), by decide⟩, (State.ownedBy_eq_none_iff _ _).1 (by decide), by decide⟩
  rintro s (rfl | rfl | rfl | rfl | rfl) <;> exact ⟨rfl, rfl, by decide⟩

theorem witness_FencesWaitForEarlierWork :
    (live.Receives { initiator := 2, tag := 4, kind := .fence } ∧ (live.fabric.outTags.get 2).length < 4) ∧
    ((live.posting.filter fun e => e.contributors.contains 2).map (·.seq) = [] ∧
      (live.waiting.filter fun w => w.initiator == 2 && !w.isFence).map (·.seq) = []) ∧
    ((holding [entry 1 .opened] []).posting.filter fun e => e.contributors.contains 2).map (·.seq) ≠ [] :=
  ⟨⟨receives rfl, by decide⟩, by decide, by decide⟩

theorem witness_LinkResetReachesEveryBlock : State.reset.fabric.link = .inReset ∧ live.fabric.link = .up := by decide

theorem witness_ArbiterGrantsInOrder :
    ((busy .write .head live).port.state ≠ .ready ∧ live.port.state = .ready) ∧
    ((holding [] [request 1 .waiting (access .read word .b4 .device .none false)]).waiting.Pairwise fun v w => v.seq < w.seq) ∧
    ((entry 1 .sealed).state = .sealed ∧ (entry 1 .sealed).heldBehind = none ∧
      live.pacing.eligible 0 0 .write live.tick = true) ∧
    (live.mgmt.limits.highWater ≤ (entries 12).posting.length ∧ ¬ live.mgmt.limits.highWater ≤ (entries 11).posting.length) ∧
    (holding [] [request 1 .waiting (access .read word .b4 .device .none false)]).eligible
      (request 1 .waiting (access .read word .b4 .device .none false)) = true ∧
    (entry 1 .opened).state ≠ .sealed := by
  refine ⟨⟨(fun h => by cases h), rfl⟩, by decide, by decide, by decide, by decide, by decide⟩

/-- A DEVICE write, a split read whose initiator holds no latch, and one whose initiator holds one in place 4. -/
theorem witness_HeadAndRequestsAreIssued :
    (holding [entry 1 .sealed] []).posting = entry 1 .sealed :: [] ∧
    (let w := request 1 .waiting (access .write mailbox .b4 .device .none false)
     w ∈ (holding [] [w]).waiting ∧ (∀ v ∈ (holding [] [w]).waiting, v.seq = w.seq → v = w)) ∧
    (∃ k, live.captures.get k = { capture := none, claim := none }) ∧
    (∃ c, half.holdsCapture 4 c ∧ c.splitFor 2 (wordOf word) = true) ∧
    (∀ j d, half.holdsCapture j d → d.splitFor 2 (wordOf word) = true → j = 4) ∧
    ∀ j d, half.holdsCapture j d → d.splitFor 5 (wordOf word) = false :=
  ⟨rfl, by decide, ⟨0, by decide⟩, ⟨_, half_holds, by decide⟩, fun _ _ h _ => (half_only h).1,
    fun _ _ h => by rw [(half_only h).2]; decide⟩

theorem witness_commands_have_next_states :
    (∃ t, exec .linkUp live = .next t) ∧ ∃ t, exec .powerOnReset live = .next t := ⟨⟨_, rfl⟩, _, rfl⟩

theorem witness_HeadCompletionRemovesTheEntry :
    let s := busy .write .head (holding [entry 1 .issued] [])
    s.TakesCompletions ∧ (∃ aw e, s.port.state = .busy aw e ∧ aw.number = completionNumber 0xF3 ∧ aw.requester = .head) ∧
      s.posting = entry 1 .issued :: [] := ⟨⟨rfl, rfl⟩, ⟨_, _, rfl, by decide, rfl⟩, rfl⟩

/-- A split read, for which 8 bytes come, and a WRITE. -/
theorem witness_RequestCompletionAnswersTheRequest :
    (let w := request 1 .issued (access .read word .b4 .device .split true)
     let s := busy .read (.request 1) (holding [] [w])
     s.TakesCompletions ∧ w ∈ s.waiting ∧ (∀ v ∈ s.waiting, v.seq = w.seq → v = w) ∧
      (∃ aw e, s.port.state = .busy aw e ∧ aw.number = completionNumber 0x03 ∧ aw.requester = .request w.seq ∧
        aw.operation = AccessKind.read.direction) ∧ completionOk 0x03 = true ∧ (bytes 8).length = 8 ∧
      completionOk 0x13 = false) ∧
    (let w := request 1 .issued (access .write mailbox .b4 .device .none false)
     let s := busy .write (.request 1) (holding [] [w])
     w ∈ s.waiting ∧ ∃ aw e, s.port.state = .busy aw e ∧ aw.operation = AccessKind.write.direction) :=
  ⟨⟨⟨rfl, rfl⟩, by decide, by decide, ⟨_, _, rfl, by decide, rfl, rfl⟩, by decide, by decide, by decide⟩, by decide, _, _, rfl, rfl⟩

/-- Place 4 is claimed by request 1. -/
def claimed : State := { live with captures := vset live.captures 4 { capture := none, claim := some 1 } }

theorem witness_OutcomesFillPlacesAndMoveSlots :
    ((claimed.captures.get 4).claim = some (request 1 .issued (access .read word .b4 .device .split true)).seq ∧
      (∀ j, (claimed.captures.get j).claim = some 1 → j = 4) ∧ word.toNat % 8 < 4 ∧ 4 ≤ (word + 4).toNat % 8) ∧
    ((locked (.pending 1 mailbox 1) live).locks.slots.get 1 = .pending 1 mailbox 1 ∧
      (locked (.closing 1 mailbox 1) live).locks.slots.get 1 = .closing 1 mailbox 1 ∧
      ∀ j, ((locked (.closing 1 mailbox 1) live).locks.slots.get j).request = some 1 → j = 1) ∧
    ∀ j, ((locked (.held 1 mailbox 7040) live).locks.slots.get j).request ≠ some 1 := by decide

theorem witness_LateCompletionsAreDiscarded :
    (live.TakesCompletions ∧ ∃ aw, (stalled live).port.state = .stalled aw ∧ aw.number = completionNumber 0x03) ∧
    ∀ aw, ((stalled live).port.state = .stalled aw ∨ ∃ e, (stalled live).port.state = .busy aw e) →
      aw.number ≠ completionNumber 0x04 := by
  refine ⟨⟨⟨rfl, rfl⟩, _, rfl, by decide⟩, ?_⟩
  rintro aw (h | ⟨e, h⟩)
  · cases h; decide
  · cases h

theorem witness_OrphansEndAtThePortAlone :
    (busy .read .orphan live).TakesCompletions ∧
    (∃ aw, (busy .read .orphan live).port.state = .busy aw 300 ∧ aw.requester = .orphan ∧ aw.number = completionNumber 0x03) ∧
    (busy .read .orphan live).CanReach 300 := ⟨⟨rfl, rfl⟩, ⟨_, rfl, rfl, by decide⟩, rfl, .inr (by decide)⟩

theorem witness_MemoryTimeoutStallsThePort :
    (let s := busy .write .head (holding [entry 1 .issued] [])
     (∃ aw, s.port.state = .busy aw 300 ∧ aw.requester = .head) ∧ s.CanReach 300) ∧
    (let w := request 1 .issued (access .read mailbox .b4 .device .none false)
     let s := busy .read (.request 1) (holding [] [w])
     (∃ aw, s.port.state = .busy aw 300 ∧ aw.requester = .request w.seq) ∧ s.CanReach 300 ∧ w ∈ s.waiting ∧
      ∀ v ∈ s.waiting, v.seq = w.seq → v = w) :=
  ⟨⟨⟨_, rfl, rfl⟩, rfl, .inr (by decide)⟩, ⟨_, rfl, rfl⟩, ⟨rfl, .inr (by decide)⟩, by decide, by decide⟩

theorem witness_EntryAndPacingTimersExpire :
    (let s := busy .read .orphan (holding [entry 1 .opened] [])
     (∀ f ∈ s.posting, f.seq = 1 → f = entry 1 .opened) ∧ s.CanReach 132 ∧ (entry 1 .opened).mergeExpiry = some 132) ∧
    (let s := holding [entry 1 .sealed] []
     s.CanReach 612 ∧ (entry 1 .sealed).drainExpiry = some 612 ∧ s.posting.head? = some (entry 1 .sealed)) ∧
    (let s := { holding [entry 1 .sealed] [] with
        pacing := { live.pacing with kept := [{ candidate := .head, region := 0, tick := 150 }] } }
     (∀ j ∈ s.pacing.kept, j.region = 0 → 150 ≤ j.tick) ∧ s.CanReach 150) :=
  ⟨⟨by decide, ⟨rfl, .inr (by decide)⟩, rfl⟩, ⟨⟨rfl, .inr (by decide)⟩, rfl, rfl⟩, by decide, rfl, .inr (by decide)⟩

theorem witness_RetentionAndReservationTimersExpire :
    half.CanReach 500 ∧ (half.captures.get 4).claim = none ∧
    ((reserved live .queueEntry).progress.reservation = some 200 ∧ (reserved live .queueEntry).progress.favoured = 3 :: [] ∧
      (reserved live .queueEntry).CanReach 200) :=
  ⟨⟨rfl, .inr (by decide)⟩, by decide, rfl, rfl, rfl, .inr (by decide)⟩

theorem witness_LockExpiryBreaksTheLock :
    lockedOut.locks.slots.get 1 = .held 1 mailbox 7040 ∧ lockedOut.CanReach 7040 := ⟨by decide, rfl, .inr (by decide)⟩

/-- Eight records, the youngest with an overflow count of 255, and seven. -/
theorem witness_FaultsAreStoredOrCounted :
    let r : FaultRecord := { seq := 7, body := .lateCompletion 3, overflow := 255 }
    (List.replicate 7 r).length < 8 ∧ List.replicate 8 r = List.replicate 7 r ++ [r] := by decide

theorem witness_FaultQueueLawIsKept :
    let s := { faulted live with pending := [.status] }
    s.faults.Sound ∧ ∃ t, step s = .next t := by
  refine ⟨⟨by decide, ?_, by decide⟩, _, rfl⟩
  show ∀ n (h : n < 1), _
  intro n h
  obtain rfl : n = 0 := by omega
  rfl

theorem witness_FavouredListLawIsKept :
    let s := { reserved live .queueEntry with pending := [.discard 3 0] }
    s.progress.Sound ∧ ∃ t, step s = .next t :=
  ⟨⟨by decide, by decide, by decide⟩, _, rfl⟩

theorem lockedOut_sound : lockedOut.locks.Sound := by
  refine ⟨?_, ?_, ?_⟩
  · show ∀ j k o, (lockedOut.locks.slots.get j).owner = some o → (lockedOut.locks.slots.get k).owner = some o → j = k
    decide
  · intro j k l hj hk
    have h : ∀ j, (lockedOut.locks.slots.get j).line ≠ none → j = 1 := by decide
    rw [h j (by rw [hj]; simp), h k (by rw [hk]; simp)]
  · show ∀ k i, (lockedOut.locks.slots.get k).owner = some i → lockedOut.locks.markers.get i = none
    decide

theorem witness_LockLawIsKept :
    { lockedOut with pending := [.lockDrop 1 3] }.locks.Sound ∧
      ∃ t, step { lockedOut with pending := [.lockDrop 1 3] } = .next t := ⟨lockedOut_sound, _, rfl⟩

/-- An entry for line A and a request of initiator 5 for the mailbox; the port is READY. -/
def queued : State :=
  { holding [entry 1 .sealed] [request 2 .waiting (access .read mailbox .b4 .device .none false)] with pending := [.status] }

theorem queued_idle (q : Requester) : ¬ queued.busyWith q := by
  rintro ⟨aw, e, h, -⟩
  cases h

theorem queued_sound : queued.QueuesSound where
  posting := ⟨by decide, by decide, by decide, by decide, by decide, by decide, by decide⟩
  waiting := ⟨by decide, by decide, by decide, by decide, by decide, by decide⟩
  head := ⟨fun ⟨e, rest, h, hs⟩ => (by cases h; cases hs), fun h => absurd h (queued_idle _)⟩
  behind := by decide
  request := fun w hw => ⟨fun h => by
    have : ∀ w ∈ queued.waiting, w.state ≠ .issued := by decide
    exact absurd h (this w hw), fun h => absurd h (queued_idle _)⟩
  awaited := fun _ h => absurd h (queued_idle _)

theorem witness_QueueLawsAreKept : queued.QueuesSound ∧ ∃ t, step queued = .next t := ⟨queued_sound, _, rfl⟩

theorem queued_noCapture (k : Fin 8) (c : Capture) : ¬ queued.holdsCapture k c := by
  intro h
  rw [State.holdsCapture, show queued.captures = live.captures from rfl, noCaptureAt] at h
  cases h

theorem witness_CaptureLawIsKept : queued.QueuesSound ∧ queued.CapturesSound ∧ ∃ t, step queued = .next t := by
  have hc : ∀ k, (queued.captures.get k).claim = none := by decide
  refine ⟨queued_sound, ⟨fun j k c d i t h => absurd h (queued_noCapture _ _),
    fun j k c d i word h => absurd h (queued_noCapture _ _), fun k c h => absurd h (queued_noCapture _ _),
    fun w _ a _ _ _ _ k c h => absurd h (queued_noCapture _ _), fun j k n h => ?_, fun k n h => ?_⟩, _, rfl⟩
  · rw [hc] at h; cases h
  · rw [hc] at h; cases h

/-- Initiator 1 holds the lock of the mailbox's line; nothing else is held. -/
theorem lockedOut_exclusive : lockedOut.LocksExclusive := by
  intro k
  have h : lockedOut.locks.slots.get k = .free ∨ lockedOut.locks.slots.get k = .held 1 mailbox 7040 := by revert k; decide
  rcases h with h | h
  · rw [h]; exact trivial
  · rw [h]
    exact ⟨fun e he => absurd he (List.not_mem_nil), fun w hw => absurd hw (List.not_mem_nil)⟩

theorem lockedOut_idle (q : Requester) : ¬ lockedOut.busyWith q := by
  rintro ⟨aw, e, h, -⟩
  cases h

theorem lockedOut_queues : lockedOut.QueuesSound where
  posting := ⟨by decide, by decide, by decide, by decide, by decide, by decide, by decide⟩
  waiting := ⟨by decide, by decide, by decide, by decide, by decide, by decide⟩
  head := ⟨fun ⟨_, _, h, _⟩ => (by cases h), fun h => absurd h (lockedOut_idle _)⟩
  behind := by decide
  request := fun w hw => absurd hw (List.not_mem_nil)
  awaited := fun _ h => absurd h (lockedOut_idle _)

theorem witness_LockExclusionIsKept :
    lockedOut.QueuesSound ∧ lockedOut.locks.Sound ∧ lockedOut.LocksExclusive ∧ ∃ t, step lockedOut = .next t :=
  ⟨lockedOut_queues, lockedOut_sound, lockedOut_exclusive, _, rfl⟩

theorem witness_LockedLinesAreReachedByTheOwnerAlone :
    lockedOut.LocksExclusive ∧ (∃ e, lockedOut.locks.slots.get 1 = .held 1 mailbox e) ∧
      ∀ v w, v ∈ lockedOut.waiting → w ∈ lockedOut.waiting → v.seq = w.seq → v = w :=
  ⟨lockedOut_exclusive, ⟨7040, by decide⟩, fun _ _ h => absurd h (List.not_mem_nil)⟩

end Sys2Proof.Tests
end

section
/-! The Region Classifier: the validation of the shadow table (R15), COPY_ACTIVE (R13) and COMMIT (R16 to
R18). Each test of a table is first read as a proposition; each command is first brought to its taking. -/

namespace Sys2Proof.Machine

open Sys2Proof

/-! ### Validation -/

/-- The index a search gives, by its two properties: the test holds there, and at no lower index. -/
theorem vfind_eq_some_iff {α : Type} {n : Nat} {p : α → Bool} {v : Vector α n} {k : Fin n} :
    vfind p v = some k ↔ p (v.get k) = true ∧ ∀ j, j < k → p (v.get j) = false := by
  constructor
  · exact fun h => ⟨vfind_some h, vfind_lowest h⟩
  · rintro ⟨hk, hlow⟩
    cases hf : vfind p v with
    | none => simp [vfind_none.1 hf k] at hk
    | some j =>
      have hjk : ¬ j < k := fun h => by simpa [hlow j h] using vfind_some hf
      have hkj : ¬ k < j := fun h => by simp [vfind_lowest hf k h] at hk
      rw [le_antisymm (not_lt.1 hkj) (not_lt.1 hjk)]

/-- The capture test fails exactly where SPLIT stands with another class than DEVICE (R15). -/
theorem RegionSettings.captureTest_eq_false_iff (r : RegionSettings) :
    r.captureTest = false ↔ r.captureMode = .split ∧ r.cls ≠ .device := by
  simp [RegionSettings.captureTest]

/-- An entry fails validation exactly where it is valid and fails the range test or the capture test (R15). -/
theorem RegionEntry.passes_eq_false_iff (e : RegionEntry) :
    e.passes = false ↔
      e.valid = true ∧
        (e.limit.toNat < e.base.toNat ∨ e.settings.captureMode = .split ∧ e.settings.cls ≠ .device) := by
  rw [← RegionSettings.captureTest_eq_false_iff]
  simp only [RegionEntry.passes, Bool.or_eq_false_iff, Bool.not_eq_false', Bool.and_eq_false_iff,
    decide_eq_false_iff_not, not_le]

namespace RegionTable

variable (t : RegionTable)

/-- Where an entry fails, the lowest such index is the failing index (R15). -/
theorem failingIndex_of_entry {k : Fin 16} (h : vfind (fun e => !e.passes) t.entries = some k) :
    t.failingIndex = some k.castSucc := by
  simp only [failingIndex, h]

/-- Where no entry fails, the default region decides (R15). -/
theorem failingIndex_of_no_entry (h : vfind (fun e => !e.passes) t.entries = none) :
    t.failingIndex = if t.defaultRegion.captureTest then none else some 16 := by
  simp only [failingIndex, h]

theorem vfind_passes_eq_none_iff :
    vfind (fun e => !e.passes) t.entries = none ↔ ∀ k, ¬ (t.entries.get k).passes = false := by
  simp [vfind_none]

theorem failingIndex_eq_none_iff :
    t.failingIndex = none ↔
      (∀ k, ¬ (t.entries.get k).passes = false) ∧ ¬ t.defaultRegion.captureTest = false := by
  rw [← vfind_passes_eq_none_iff]
  cases hf : vfind (fun e => !e.passes) t.entries with
  | none => simp [failingIndex_of_no_entry t hf]
  | some k => simp [failingIndex_of_entry t hf]

/-- No index of an entry is that of the default region, so an entry's index comes from the search alone. -/
theorem failingIndex_eq_castSucc_iff (k : Fin 16) :
    t.failingIndex = some k.castSucc ↔
      (t.entries.get k).passes = false ∧ ∀ j, j < k → ¬ (t.entries.get j).passes = false := by
  have hsearch : vfind (fun e => !e.passes) t.entries = some k ↔
      (t.entries.get k).passes = false ∧ ∀ j, j < k → ¬ (t.entries.get j).passes = false := by
    simp [vfind_eq_some_iff]
  have hdefault : (16 : RegionIndex) ≠ k.castSucc := (Fin.castSucc_lt_last k).ne'
  rw [← hsearch]
  cases hf : vfind (fun e => !e.passes) t.entries with
  | none => simp [failingIndex_of_no_entry t hf, hdefault]
  | some j => simp [failingIndex_of_entry t hf]

theorem failingIndex_eq_default_iff :
    t.failingIndex = some 16 ↔
      (∀ k, ¬ (t.entries.get k).passes = false) ∧ t.defaultRegion.captureTest = false := by
  rw [← vfind_passes_eq_none_iff]
  cases hf : vfind (fun e => !e.passes) t.entries with
  | none => simp [failingIndex_of_no_entry t hf]
  | some k =>
    have hentry : k.castSucc ≠ (16 : RegionIndex) := (Fin.castSucc_lt_last k).ne
    simp [failingIndex_of_entry t hf, hentry]

end RegionTable

/-- Settles O7: the three values the failing index can take, with the tests of R15 read as propositions. -/
theorem validationFindsTheLowestFailingIndex : Obligations.ValidationFindsTheLowestFailingIndex := by
  intro t
  simp only [← RegionEntry.passes_eq_false_iff]
  simp only [← RegionSettings.captureTest_eq_false_iff]
  exact ⟨t.failingIndex_eq_none_iff, t.failingIndex_eq_castSucc_iff, t.failingIndex_eq_default_iff⟩

/-! ### The taking of a command without arguments -/

namespace State

variable (s : State)

/-- The byte received in COMMAND drives fill and names the command (R186). -/
theorem clockByte_of_atCommand {s : State} (h : s.AtCommand) (b : Byte) :
    s.clockByte b = (s.drive Config.fill).nameCommand b := by
  obtain ⟨hcs, hphase⟩ := h
  simp [clockByte, hcs, hphase]

/-- A command without arguments is taken at its command byte (R186). -/
theorem nameCommand_of_no_arguments {b : Byte} {c : Command} (hcode : Command.ofCode b = some c)
    (hargs : c.argumentBytes = 0) : s.nameCommand b = s.takeCommand c [] := by
  simp [nameCommand, hcode, hargs]

/-- A command taken at its command byte: the fill of that byte position has been driven before (R186, R187). -/
theorem clockByte_takes_command {s : State} (h : s.AtCommand) {b : Byte} {c : Command}
    (hcode : Command.ofCode b = some c) (hargs : c.argumentBytes = 0) :
    s.clockByte b = (s.drive Config.fill).takeCommand c [] := by
  rw [clockByte_of_atCommand h, nameCommand_of_no_arguments _ hcode hargs]

/-- An answer after the fill of the last byte position changes the Management Port alone. -/
theorem drive_answerFrame (c : Option Command) (result : ResultCode) (bytes : List Byte) :
    (s.drive Config.fill).answerFrame c result bytes = { s with mgmt := s.replying c result.byte bytes } := rfl

end State

theorem exec_copyActive_of_atCommand {s : State} (h : s.AtCommand) :
    exec .copyActive s = .next (s.drive Config.fill).takeCopyActive :=
  congrArg Host.Outcome.next (State.clockByte_takes_command h (b := 0x12) rfl rfl)

theorem exec_commit_of_atCommand {s : State} (h : s.AtCommand) :
    exec .commit s = .next (s.drive Config.fill).takeCommit :=
  congrArg Host.Outcome.next (State.clockByte_takes_command h (b := 0x13) rfl rfl)

/-! ### COPY_ACTIVE and COMMIT -/

/-- Settles O8: the command at its taking, whose answer leaves the copied table as it is. -/
theorem copyActiveReplacesTheShadowTable : Obligations.CopyActiveReplacesTheShadowTable := by
  intro s h
  rw [exec_copyActive_of_atCommand h]
  rfl

/-- A sealing event at every entry seals those that are OPEN (R25, R34). -/
theorem closeWhere_true (q : List PostingEntry) :
    closeWhere (fun _ => true) q =
      q.map fun e => if e.state = .opened then { e with state := .sealed, mergeExpiry := none } else e := by
  simp [closeWhere, PostingEntry.close, PostingEntry.isOpen]

namespace State

variable {s : State}

theorem takeCommit_of_failing {k : RegionIndex} (h : s.regions.shadow.failingIndex = some k) :
    s.takeCommit = s.answerFrame (some .commit) .invalidEntry [BitVec.ofNat 8 k.val] := by
  simp only [takeCommit, h]

theorem takeCommit_of_valid (h : s.regions.shadow.failingIndex = none) :
    s.takeCommit = (s.answerFrame (some .commit) .ok []).install := by
  simp only [takeCommit, h]

/-- The installation by the fields it changes (R17, R18). -/
theorem install_eq (s : State) :
    s.install =
      judge
        { s with
          regions := { s.regions with active := s.regions.shadow }
          posting := s.posting.map fun e =>
            if e.state = .opened then { e with state := .sealed, mergeExpiry := none } else e
          pacing := { s.pacing with records := Vector.replicate 17 { last := none, time := 0 } } } := by
  rw [install, closeWhere_true]
  rfl

end State

/-- Settles O9: the two outcomes of the validation, at the taking of the command. -/
theorem commitInstallsAValidTable : Obligations.CommitInstallsAValidTable := by
  constructor
  · intro s k h hfail
    rw [exec_commit_of_atCommand h, State.takeCommit_of_failing (by simpa using hfail), State.drive_answerFrame]
    rfl
  · intro s h hvalid
    rw [exec_commit_of_atCommand h, State.takeCommit_of_valid (by simpa using hvalid), State.drive_answerFrame,
      State.install_eq]
    rfl

end Sys2Proof.Machine
end

section
/-! The decision of the Issue Arbiter (R72, R73): what its tests of the Posting Queue head say, which request its search
of the Wait List finds, and the outcome of each of its choices. -/

namespace Sys2Proof.Machine

/-- In a list that rises by a measure, the first element to pass a test is the least that passes it. -/
theorem find?_eq_some_of_least {α : Type} {p : α → Bool} {f : α → Nat} {l : List α} {w : α}
    (hsorted : l.Pairwise fun v x => f v < f x) (hw : w ∈ l) (hp : p w = true)
    (hleast : ∀ v ∈ l, p v = true → f w ≤ f v) : l.find? p = some w := by
  obtain ⟨before, after, rfl⟩ := List.append_of_mem hw
  have hbelow : ∀ v ∈ before, f v < f w := fun v hv =>
    (List.pairwise_append.1 hsorted).2.2 v hv w List.mem_cons_self
  have hfails : ∀ v ∈ before, (!p v) = true := fun v hv => by
    by_contra hpasses
    have hle : f w ≤ f v := hleast v (List.mem_append_left _ hv) (by simpa using hpasses)
    exact absurd (hbelow v hv) (not_lt_of_ge hle)
  exact List.find?_eq_some_iff_append.2 ⟨hp, before, after, rfl, hfails⟩

namespace State

variable {s : State} {e : PostingEntry} {rest : List PostingEntry} {w : WaitEntry}

/-! ### The tests of the Posting Queue head -/

/-- The conditions of R42 on the head. -/
theorem drainEligible_iff (h : s.posting = e :: rest) :
    s.drainEligible = true ↔
      e.state = .sealed ∧ e.heldBehind = none ∧ s.pacing.eligible e.region e.profile .write s.tick = true := by
  simp [drainEligible, h, and_assoc]

theorem drainEligible_of_empty (h : s.posting = []) : s.drainEligible = false := by
  simp only [drainEligible, h]

/-- The two reasons of R73 step 1: the high-water mark and an overdue head. -/
theorem drainPressed_iff (h : s.posting = e :: rest) :
    s.drainPressed = true ↔ s.mgmt.limits.highWater ≤ s.posting.length ∨ e.overdue = true := by
  simp [drainPressed, h]

/-- A queue that passes the test of R42 has a head. -/
theorem exists_head_of_drainEligible (h : s.drainEligible = true) : ∃ e rest, s.posting = e :: rest := by
  cases hq : s.posting with
  | nil => simp [drainEligible_of_empty hq] at h
  | cons e rest => exact ⟨e, rest, rfl⟩

/-! ### The choice -/

/-- Step 1 of R73. -/
theorem choice_of_drain_pressed (h : s.posting = e :: rest) (hdrain : s.drainEligible = true)
    (hpressed : s.drainPressed = true) : s.choice = some (.head e) := by
  simp [choice, h, hdrain, hpressed]

/-- Step 2 of R73. -/
theorem choice_of_request (hhead : ¬ (s.drainEligible = true ∧ s.drainPressed = true))
    (hfind : s.waiting.find? s.eligible = some w) : s.choice = some (.request w) := by
  simp [choice, hhead, hfind]

theorem find?_eligible_of_none (hnone : ∀ w ∈ s.waiting, s.eligible w = false) :
    s.waiting.find? s.eligible = none :=
  List.find?_eq_none.2 fun w hw => by simp [hnone w hw]

/-- With no eligible request a drain-eligible head is chosen, by step 1 or by step 3 of R73. -/
theorem choice_of_drain_alone (h : s.posting = e :: rest) (hdrain : s.drainEligible = true)
    (hnone : ∀ w ∈ s.waiting, s.eligible w = false) : s.choice = some (.head e) := by
  by_cases hpressed : s.drainPressed = true
  · exact choice_of_drain_pressed h hdrain hpressed
  · simp [choice, h, hdrain, hpressed, find?_eligible_of_none hnone]

theorem choice_of_no_candidate (hdrain : s.drainEligible = false)
    (hnone : ∀ w ∈ s.waiting, s.eligible w = false) : s.choice = none := by
  simp [choice, hdrain, find?_eligible_of_none hnone]

/-! ### The decision -/

theorem arbitrate_of_choice_head (hready : s.port.state = .ready) (h : s.choice = some (.head e)) :
    s.arbitrate = s.issueHead e := by
  simp only [arbitrate, hready, h]

theorem arbitrate_of_choice_request (hready : s.port.state = .ready) (h : s.choice = some (.request w)) :
    s.arbitrate = s.issueRequest w := by
  simp only [arbitrate, hready, h]

theorem arbitrate_of_choice_none (hready : s.port.state = .ready) (h : s.choice = none) : s.arbitrate = s := by
  simp only [arbitrate, hready, h]

end State

/-- Settles O38: each candidate of R73 in its order, through the choice it makes the arbiter take. -/
theorem arbiterGrantsInOrder : Obligations.ArbiterGrantsInOrder := by
  intro s drains pressed oldest
  have drain_iff : ∀ {e rest}, s.posting = e :: rest → (s.drainEligible = true ↔ drains e) := State.drainEligible_iff
  have press_iff : ∀ {e rest}, s.posting = e :: rest → (s.drainPressed = true ↔ pressed e) := State.drainPressed_iff
  refine ⟨s.arbitrate_of_not_ready, fun hready hsorted => ⟨?pressedHead, ?request, ?headAlone, ?nothing⟩⟩
  case pressedHead =>
    intro e rest h hdrain hpressed
    exact State.arbitrate_of_choice_head hready
      (State.choice_of_drain_pressed h ((drain_iff h).2 hdrain) ((press_iff h).2 hpressed))
  case request =>
    rintro w hhead ⟨hw, heligible, hleast⟩
    have hnot : ¬ (s.drainEligible = true ∧ s.drainPressed = true) := by
      rintro ⟨hdrain, hpressed⟩
      obtain ⟨e, rest, h⟩ := State.exists_head_of_drainEligible hdrain
      exact hhead e rest h ⟨(drain_iff h).1 hdrain, (press_iff h).1 hpressed⟩
    exact State.arbitrate_of_choice_request hready
      (State.choice_of_request hnot (find?_eq_some_of_least hsorted hw heligible hleast))
  case headAlone =>
    intro e rest h hdrain hnone
    exact State.arbitrate_of_choice_head hready (State.choice_of_drain_alone h ((drain_iff h).2 hdrain) hnone)
  case nothing =>
    intro hhead hnone
    have hdrain : s.drainEligible = false := Bool.eq_false_iff.2 fun hdrain => by
      obtain ⟨e, rest, h⟩ := State.exists_head_of_drainEligible hdrain
      exact hhead e rest h ((drain_iff h).1 hdrain)
    exact State.arbitrate_of_choice_none hready (State.choice_of_no_candidate hdrain hnone)

end Sys2Proof.Machine
end

section
/-! The Pacing Unit (R94): when an access is pacing-eligible, and the bound on the spacing. -/

namespace Sys2Proof.Machine

namespace PacingProfile

/-- The gap of a direction is one byte (R92, R94). -/
theorem gap_le (p : PacingProfile) (d : Direction) : p.gap d ≤ 255 := by
  cases d with
  | read => exact Nat.le_of_lt_succ p.readGap.isLt
  | write => exact Nat.le_of_lt_succ p.writeGap.isLt

/-- What a change of direction adds is four bits (R92, R94). -/
theorem turn_le (p : PacingProfile) (last d : Direction) : (if last = d then 0 else p.turnaround.val) ≤ 15 := by
  split
  · exact Nat.zero_le _
  · exact Nat.le_of_lt_succ p.turnaround.isLt

end PacingProfile

namespace PacingUnit

variable {u : PacingUnit} {r : RegionIndex} {p : ProfileIndex} {d : Direction} {tick : Nat}

/-- A region without history holds no access back (R94). -/
theorem eligible_of_no_history (h : (u.records.get r).last = none) : u.eligible r p d tick = true := by
  simp [eligible, eligibleFrom, spacing, h]

/-- After a completion an access is eligible once its spacing has passed (R94). -/
theorem eligible_iff_of_last {last : Direction} (h : (u.records.get r).last = some last) :
    u.eligible r p d tick = true ↔
      (u.records.get r).time +
        ((u.profiles.get p).gap d + if last = d then 0 else (u.profiles.get p).turnaround.val) ≤ tick := by
  simp [eligible, eligibleFrom, spacing, h]

theorem eligible_iff :
    u.eligible r p d tick = true ↔
      (u.records.get r).last = none ∨
        ∃ last, (u.records.get r).last = some last ∧
          (u.records.get r).time +
            ((u.profiles.get p).gap d + if last = d then 0 else (u.profiles.get p).turnaround.val) ≤ tick := by
  cases h : (u.records.get r).last with
  | none => simp [eligible_of_no_history h]
  | some last => simp [eligible_iff_of_last h]

end PacingUnit

/-- Settles O36: the two cases of the record, with the gap of each direction read off the profile. -/
theorem pacingSpacesAccesses : Obligations.PacingSpacesAccesses := by
  intro u r p d tick record profile gap turn
  have hgap : gap = profile.gap d := by cases d <;> rfl
  rw [hgap]
  exact ⟨PacingUnit.eligible_iff, fun last => Nat.add_le_add (profile.gap_le d) (profile.turn_le last d)⟩

end Sys2Proof.Machine
end

section
/-! The Memory Port outside an issue: ABANDON (R89), and the completions that are discarded at their arrival (R85,
R86). -/

namespace Sys2Proof.Machine

open Sys2Proof

namespace State

variable {s : State}

/-! ### ABANDON -/

theorem isStalled_of_stalled {aw : Awaited} (h : s.port.state = .stalled aw) : s.isStalled = true := by
  simp only [isStalled, h]

theorem isStalled_of_not_stalled (h : ∀ aw, s.port.state ≠ .stalled aw) : s.isStalled = false := by
  cases hp : s.port.state with
  | ready | busy => simp only [isStalled, hp]
  | stalled aw => exact absurd hp (h aw)

theorem takeAbandon_of_stalled (h : s.isStalled = true) :
    s.takeAbandon = (s.answerFrame (some .abandon) .ok []).abandonStall := if_pos h

theorem takeAbandon_of_not_stalled (h : s.isStalled = false) :
    s.takeAbandon = s.answerFrame (some .abandon) .refused [] := if_neg (by simp [h])

/-- The byte driven before a command is taken does not reach the Memory Port. -/
theorem isStalled_drive (b : Byte) : (s.drive b).isStalled = s.isStalled := rfl

/-! ### Completions -/

/-- A completion that matches the awaited access of a stall ends the stall and delivers nothing (R85). -/
theorem completion_ends_stall {aw : Awaited} (h : s.port.state = .stalled aw) (ok : Bool) (data : List Byte) :
    s.completion aw.number ok data =
      (((s.recordPace aw.region aw.operation).handOver (.lateCompletion aw.number)).setPort .ready).judge := by
  simp [completion, h]

/-- A completion that no awaited access matches leaves a record alone (R86). -/
theorem completion_of_not_awaited {number : AccessNumber}
    (h : ∀ aw, (s.port.state = .stalled aw ∨ ∃ e, s.port.state = .busy aw e) → aw.number ≠ number) (ok : Bool)
    (data : List Byte) : s.completion number ok data = s.handOver (.lateCompletion number) := by
  cases hp : s.port.state with
  | ready => simp only [completion, hp]
  | busy aw e =>
    have hne : aw.number ≠ number := h aw (.inr ⟨e, hp⟩)
    simp [completion, hp, hne]
  | stalled aw =>
    have hne : aw.number ≠ number := h aw (.inl hp)
    simp [completion, hp, hne]

end State

theorem exec_abandon_of_atCommand {s : State} (h : s.AtCommand) :
    exec .abandon s = .next (s.drive Config.fill).takeAbandon :=
  congrArg Host.Outcome.next (State.clockByte_takes_command h (b := 0x50) rfl rfl)

/-- Settles O16: the command at its taking, in each state of the port. -/
theorem abandonEndsAStall : Obligations.AbandonEndsAStall := by
  intro s h
  rw [exec_abandon_of_atCommand h]
  constructor
  · intro aw hstalled
    rw [State.takeAbandon_of_stalled (by rw [State.isStalled_drive, State.isStalled_of_stalled hstalled])]
    rfl
  · intro hnot
    rw [State.takeAbandon_of_not_stalled (by rw [State.isStalled_drive, State.isStalled_of_not_stalled hnot])]
    rfl

/-- Outside a reset and the discarding of a frame a completion reaches the Memory Port (R98). -/
theorem exec_completion_of_takes {s : State} (h : s.TakesCompletions) (head : Byte) (data : List Byte) :
    exec (.completion head data) s = .next (s.completion (completionNumber head) (completionOk head) data) := by
  obtain ⟨hreset, hdiscard⟩ := h
  exact if_neg (by simp [hreset, hdiscard])

/-- Settles O46: the completion that ends a stall, and the one that nothing awaits. -/
theorem lateCompletionsAreDiscarded : Obligations.LateCompletionsAreDiscarded := by
  constructor
  · intro s head data aw htakes hstalled hnumber
    rw [exec_completion_of_takes htakes, ← hnumber, State.completion_ends_stall hstalled]
    rfl
  · intro s head data htakes hnot
    rw [exec_completion_of_takes htakes, State.completion_of_not_awaited hnot]
    rfl

end Sys2Proof.Machine
end

section
/-! The access number counter (R79): no operation but the decision of the Issue Arbiter touches it, and a command takes
at most one decision. Each command is a change that issues nothing, or such a change followed by one decision. -/

namespace Sys2Proof.Machine

open Sys2Proof

namespace State

variable {s t u : State}

/-- No access is issued between two states: the counter and the record of accesses stay as they are. -/
def NoIssue (s t : State) : Prop := t.port.counter = s.port.counter ∧ t.port.accesses = s.port.accesses

/-- One access is issued between two states: it takes the counter's value, and the counter goes on (R79). -/
def OneIssue (s t : State) : Prop :=
  t.port.counter.val = (s.port.counter.val + 1) % 16 ∧
    ∃ access, t.port.accesses = s.port.accesses ++ [access] ∧ access.number = s.port.counter

/-- What a command may do to the counter outside a power-on reset: nothing, or one issue (R79). -/
def AtMostOneIssue (s t : State) : Prop := s.NoIssue t ∨ s.OneIssue t

theorem noIssue_of_port_eq (h : t.port = s.port) : s.NoIssue t := by simp [NoIssue, h]

theorem NoIssue.atMostOne (h : s.NoIssue t) : s.AtMostOneIssue t := .inl h

theorem atMostOneIssue_of_port_eq (h : t.port = s.port) : s.AtMostOneIssue t := (noIssue_of_port_eq h).atMostOne

theorem AtMostOneIssue.refl (s : State) : s.AtMostOneIssue s := atMostOneIssue_of_port_eq rfl

theorem NoIssue.trans (h : s.NoIssue t) (hu : t.NoIssue u) : s.NoIssue u := by
  obtain ⟨hcounter, haccesses⟩ := h
  simpa only [NoIssue, hcounter, haccesses] using hu

/-- What issues nothing may come before an issue. -/
theorem NoIssue.trans_atMostOne (h : s.NoIssue t) (hu : t.AtMostOneIssue u) : s.AtMostOneIssue u := by
  obtain ⟨hcounter, haccesses⟩ := h
  simpa only [AtMostOneIssue, NoIssue, OneIssue, hcounter, haccesses] using hu

/-! ### The decision of the Issue Arbiter -/

/-- The presentation of an access is its issue (R78, R79). -/
theorem oneIssue_present (s : State) (d : Direction) (a : Addr) (size : Size) (mask : Mask) (data : List Byte)
    (r : RegionIndex) (q : Requester) : s.OneIssue (s.present d a size mask data r q) :=
  ⟨Fin.val_add _ _, _, rfl, rfl⟩

theorem oneIssue_issueHead (s : State) (e : PostingEntry) : s.OneIssue (s.issueHead e) :=
  oneIssue_present { s with posting := _ } ..

/-- A claim and the mark ISSUED come before the presentation and leave the port alone (R64). -/
theorem atMostOneIssue_issueRequest (s : State) (w : WaitEntry) : s.AtMostOneIssue (s.issueRequest w) := by
  unfold issueRequest
  cases w.work with
  | fence => exact .refl s
  | access a =>
    have hclaim : s.NoIssue ((if a.isDeviceRead then s.claimPlace w.seq w.initiator a else s).markIssued w.seq) :=
      noIssue_of_port_eq (by split <;> simp)
    dsimp only
    generalize (if a.isDeviceRead then _ else s).markIssued w.seq = claimed at hclaim ⊢
    refine hclaim.trans_atMostOne (.inr ?_)
    split <;> exact oneIssue_present ..

theorem atMostOneIssue_arbitrate (s : State) : s.AtMostOneIssue s.arbitrate := by
  unfold arbitrate
  split
  · split
    · exact .inr (oneIssue_issueHead s _)
    · exact atMostOneIssue_issueRequest s _
    · exact .refl s
  · exact .refl s
  · exact .refl s

theorem atMostOneIssue_judge (s : State) : s.AtMostOneIssue s.judge := by
  simpa only [AtMostOneIssue, NoIssue, OneIssue, judge, keepPacing_port] using atMostOneIssue_arbitrate s

/-- A change that issues nothing, with the decision at its end. -/
theorem NoIssue.judge (h : s.NoIssue t) : s.AtMostOneIssue t.judge := h.trans_atMostOne (atMostOneIssue_judge t)

theorem atMostOneIssue_judge_of_port_eq (h : t.port = s.port) : s.AtMostOneIssue t.judge :=
  (noIssue_of_port_eq h).judge

/-! ### Arrivals on the fabric link -/

@[simp] theorem answerReplay_port (s : State) (r : Request) (k : Fin 8) (c : Capture) (a : Addr) :
    (s.answerReplay r k c a).port = s.port := rfl

@[simp] theorem answerLatch_port (s : State) (r : Request) (k : Fin 8) (c : Capture) (a : Addr) :
    (s.answerLatch r k c a).port = s.port := rfl

@[simp] theorem reuseTag_port (s : State) (r : Request) : (s.reuseTag r).port = s.port := rfl

@[simp] theorem latchStep_port (s : State) (r : Request) (a : Addr) : (s.latchStep r a).2.port = s.port := by
  unfold latchStep
  split
  · rfl
  · split <;> rfl

/-- The Capture Table answers or forgets without the Memory Port (R106). -/
@[simp] theorem lookup_port (s : State) (r : Request) : (s.lookup r).2.port = s.port := by
  unfold lookup
  split
  · split
    · rfl
    · split
      · exact latchStep_port ..
      · rfl
  all_goals rfl

@[simp] theorem dropOwnLatches_port (s : State) (i : Initiator) (a : Addr) (size : Size) :
    (s.dropOwnLatches i a size).port = s.port := rfl

@[simp] theorem dropLatches_port (s : State) (a : Addr) (size : Size) : (s.dropLatches a size).port = s.port := rfl

@[simp] theorem takeAccess_port (s : State) (r : Request) (kind : AccessKind) (c : Classification) (a : Addr)
    (size : Size) (data : List Byte) : (s.takeAccess r kind c a size data).port = s.port := rfl

@[simp] theorem answerLockLost_port (s : State) (r : Request) : (s.answerLockLost r).port = s.port := rfl

@[simp] theorem formLock_port (s : State) (k : Fin 2) (r : Request) (c : Classification) (a : Addr) (size : Size) :
    (s.formLock k r c a size).port = s.port := rfl

@[simp] theorem closeLock_port (s : State) (k : Fin 2) (r : Request) (c : Classification) (a : Addr) (size : Size)
    (data : List Byte) : (s.closeLock k r c a size data).port = s.port := rfl

@[simp] theorem kindRead_port (s : State) (r : Request) (c : Classification) (a : Addr) (size : Size) :
    (s.kindRead r c a size).port = s.port := by
  have hdrop : (if size = .b8 ∨ size = .b32 then s.dropOwnLatches r.initiator a size else s).port = s.port := by
    split <;> rfl
  unfold kindRead
  dsimp only
  split <;> simpa using hdrop

@[simp] theorem kindPosted_port (s : State) (r : Request) (c : Classification) (a : Addr) (size : Size)
    (data : List Byte) : (s.kindPosted r c a size data).port = s.port := by
  unfold kindPosted
  split
  · rfl
  · split
    · rfl
    · split <;> rfl

@[simp] theorem kindWrite_port (s : State) (r : Request) (c : Classification) (a : Addr) (size : Size)
    (data : List Byte) : (s.kindWrite r c a size data).port = s.port := by
  unfold kindWrite
  split
  · rfl
  · split
    · rfl
    · exact kindPosted_port ..

@[simp] theorem kindLockedRead_port (s : State) (r : Request) (c : Classification) (a : Addr) (size : Size) :
    (s.kindLockedRead r c a size).port = s.port := by
  unfold kindLockedRead
  split
  · rfl
  · split
    · rfl
    · split
      · rfl
      · split <;> rfl

@[simp] theorem kindLockedWrite_port (s : State) (r : Request) (c : Classification) (a : Addr) (size : Size)
    (data : List Byte) : (s.kindLockedWrite r c a size data).port = s.port := by
  unfold kindLockedWrite
  split
  · split
    · split <;> rfl
    all_goals rfl
  · split <;> rfl

@[simp] theorem kindLockDrop_port (s : State) (r : Request) : (s.kindLockDrop r).port = s.port := by
  unfold kindLockDrop
  split
  · split <;> rfl
  · split <;> rfl

@[simp] theorem kindFence_port (s : State) (r : Request) : (s.kindFence r).port = s.port := by
  unfold kindFence
  dsimp only
  split <;> rfl

/-- The checks before the kind step refuse with a response, which leaves the port alone (R164). -/
theorem getD_preCheck_port (s : State) (r : Request) (c : Classification) (a : Addr) (nonPosted : Bool)
    (h : u.port = s.port) : ((s.preCheck r c a nonPosted).getD u).port = s.port := by
  unfold preCheck
  split
  · rfl
  · split
    · rfl
    · split
      · rfl
      · exact h

/-- The acceptance order leaves the Memory Port to the decision that follows it (R164). -/
@[simp] theorem accept_port (s : State) (r : Request) : (s.accept r).port = s.port := by
  unfold accept
  cases r.kind with
  | discard => rfl
  | lockDrop => exact kindLockDrop_port s r
  | fence =>
    dsimp only
    split
    · rfl
    · exact kindFence_port s r
  | read | write | lockedRead | lockedWrite => exact getD_preCheck_port _ _ _ _ _ (by simp)

theorem atMostOneIssue_process (s : State) (r : Request) : s.AtMostOneIssue (s.process r) := by
  have hport : (if (s.lookup r).1 then (s.lookup r).2 else (s.lookup r).2.accept r).port = s.port := by
    split <;> simp
  unfold process
  dsimp only
  generalize (if (s.lookup r).1 then _ else _) = arrived at hport ⊢
  split
  · exact atMostOneIssue_judge_of_port_eq hport
  · exact atMostOneIssue_of_port_eq hport

theorem arriveMalformed_port (s : State) (i : Initiator) (tag : Tag) : (s.arriveMalformed i tag).port = s.port := by
  unfold arriveMalformed
  split <;> rfl

theorem atMostOneIssue_arrive (s : State) (r : Request) : s.AtMostOneIssue (s.arrive r) := by
  unfold arrive
  split
  · exact atMostOneIssue_of_port_eq (arriveMalformed_port s _ _)
  · split
    · exact .refl s
    · split
      · exact atMostOneIssue_of_port_eq rfl
      · exact atMostOneIssue_process s r

theorem atMostOneIssue_arriveFrame (s : State) (header : BitVec 64) (data : List Byte) :
    s.AtMostOneIssue (s.arriveFrame header data) := by
  unfold arriveFrame
  split
  · exact atMostOneIssue_arrive s _
  · exact atMostOneIssue_of_port_eq (arriveMalformed_port s _ _)

/-! ### Resets -/

/-- The access that becomes an orphan has been issued before (R87). -/
theorem noIssue_orphanAccess (s : State) (test : Requester → Bool) : s.NoIssue (s.orphanAccess test) := by
  unfold orphanAccess
  split
  · split <;> exact ⟨rfl, rfl⟩
  · exact ⟨rfl, rfl⟩
  · exact ⟨rfl, rfl⟩

theorem atMostOneIssue_linkReset (s : State) : s.AtMostOneIssue s.linkReset := by
  unfold linkReset
  split
  · exact .refl s
  · have hdrop : s.NoIssue s.dropLink := noIssue_of_port_eq (dropLink_port s)
    exact (hdrop.trans ((noIssue_orphanAccess s.dropLink _).trans (noIssue_of_port_eq (clearTraffic_port _)))).judge

theorem atMostOneIssue_linkUp (s : State) : s.AtMostOneIssue s.linkUp := by
  unfold linkUp
  split
  · exact .refl s
  · split
    · exact .refl s
    · exact atMostOneIssue_judge_of_port_eq rfl

@[simp] theorem discardPosted_port (s : State) : s.discardPosted.port = s.port := by
  unfold discardPosted
  split <;> rfl

@[simp] theorem abandonRequests_port (s : State) : s.abandonRequests.port = s.port := by simp [abandonRequests]

theorem atMostOneIssue_softReset (s : State) : s.AtMostOneIssue s.softReset := by
  have hqueues : s.NoIssue s.discardPosted.abandonRequests := noIssue_of_port_eq (by simp)
  have horphan := hqueues.trans (noIssue_orphanAccess s.discardPosted.abandonRequests fun _ => true)
  unfold softReset
  exact NoIssue.judge (horphan.trans (noIssue_of_port_eq rfl))

/-! ### Completions and expiries -/

theorem atMostOneIssue_completion (s : State) (number : AccessNumber) (ok : Bool) (data : List Byte) :
    s.AtMostOneIssue (s.completion number ok data) := by
  have late : s.AtMostOneIssue (s.handOver (.lateCompletion number)) := atMostOneIssue_of_port_eq rfl
  unfold completion
  split
  · exact late
  · split
    · exact NoIssue.judge (by simp [NoIssue])
    · exact late
  · split
    · exact NoIssue.judge ⟨rfl, rfl⟩
    · exact late

theorem atMostOneIssue_memoryExpired (s : State) : s.AtMostOneIssue s.memoryExpired := by
  unfold memoryExpired
  split
  · exact NoIssue.judge (by simp [NoIssue])
  · exact .refl s
  · exact .refl s

theorem atMostOneIssue_drainExpired (s : State) (seq : Nat) : s.AtMostOneIssue (s.drainExpired seq) := by
  unfold drainExpired
  split
  · exact atMostOneIssue_judge_of_port_eq rfl
  · exact atMostOneIssue_of_port_eq rfl

theorem atMostOneIssue_retentionExpired (s : State) (k : Fin 8) : s.AtMostOneIssue (s.retentionExpired k) := by
  unfold retentionExpired
  split
  · exact atMostOneIssue_of_port_eq rfl
  · exact atMostOneIssue_judge_of_port_eq rfl

theorem lockExpired_port (s : State) (k : Fin 2) : (s.lockExpired k).port = s.port := by
  unfold lockExpired
  split <;> rfl

theorem reservationExpired_port (s : State) : s.reservationExpired.port = s.port := by
  unfold reservationExpired
  split <;> rfl

/-- Time that passes issues nothing (R200). -/
theorem noIssue_reach {e : Nat} (h : s.reach e = some t) : s.NoIssue t := by
  unfold reach at h
  split at h
  · cases h
  · split at h
    · cases h; exact ⟨rfl, rfl⟩
    · split at h
      · cases h; exact ⟨rfl, rfl⟩
      · cases h

/-- An expiry command issues what the event of its expiry issues (R200). -/
theorem atMostOneIssue_expire (s : State) (expiry : Option Nat) {event : State → State}
    (hevent : ∀ t : State, t.AtMostOneIssue (event t)) : s.AtMostOneIssue (s.expire expiry event) := by
  unfold expire
  split
  · exact .refl s
  · split
    · next hreach => exact (noIssue_reach hreach).trans_atMostOne (hevent _)
    · exact .refl s

/-! ### The bytes of a Management Port frame -/

theorem takeReadRegion_port (s : State) (args : List Byte) : (s.takeReadRegion args).port = s.port := by
  unfold takeReadRegion
  dsimp only
  split
  · rfl
  · split <;> rfl

theorem takeWriteRegion_port (s : State) (args : List Byte) : (s.takeWriteRegion args).port = s.port := by
  unfold takeWriteRegion
  dsimp only
  split
  · split <;> rfl
  · split
    · split <;> rfl
    · rfl

theorem takeReadProfile_port (s : State) (args : List Byte) : (s.takeReadProfile args).port = s.port := by
  unfold takeReadProfile
  split <;> rfl

theorem takeReadLimit_port (s : State) (args : List Byte) : (s.takeReadLimit args).port = s.port := by
  unfold takeReadLimit
  split <;> rfl

theorem takeWriteLimit_port (s : State) (args : List Byte) : (s.takeWriteLimit args).port = s.port := by
  unfold takeWriteLimit
  split
  · rfl
  · dsimp only
    split <;> rfl

theorem takePopFault_port (s : State) : s.takePopFault.port = s.port := by
  unfold takePopFault
  split <;> rfl

/-- An installed table is an event of R72 (R17, R18). -/
theorem atMostOneIssue_takeCommit (s : State) : s.AtMostOneIssue s.takeCommit := by
  unfold takeCommit
  split
  · exact atMostOneIssue_of_port_eq rfl
  · exact atMostOneIssue_judge_of_port_eq rfl

theorem atMostOneIssue_takeWriteProfile (s : State) (args : List Byte) :
    s.AtMostOneIssue (s.takeWriteProfile args) := by
  unfold takeWriteProfile
  split
  · exact atMostOneIssue_of_port_eq rfl
  · split
    · exact atMostOneIssue_of_port_eq rfl
    · exact atMostOneIssue_judge_of_port_eq rfl

theorem atMostOneIssue_takeAbandon (s : State) : s.AtMostOneIssue s.takeAbandon := by
  cases h : s.isStalled with
  | true => rw [takeAbandon_of_stalled h]; exact NoIssue.judge ⟨rfl, rfl⟩
  | false => rw [takeAbandon_of_not_stalled h]; exact atMostOneIssue_of_port_eq rfl

theorem atMostOneIssue_takeCommand (s : State) (c : Command) (args : List Byte) :
    s.AtMostOneIssue (s.takeCommand c args) := by
  cases c with
  | status | copyActive => exact atMostOneIssue_of_port_eq rfl
  | readRegion => exact atMostOneIssue_of_port_eq (takeReadRegion_port s args)
  | writeRegion => exact atMostOneIssue_of_port_eq (takeWriteRegion_port s args)
  | readProfile => exact atMostOneIssue_of_port_eq (takeReadProfile_port s args)
  | readLimit => exact atMostOneIssue_of_port_eq (takeReadLimit_port s args)
  | writeLimit => exact atMostOneIssue_of_port_eq (takeWriteLimit_port s args)
  | popFault => exact atMostOneIssue_of_port_eq (takePopFault_port s)
  | commit => exact atMostOneIssue_takeCommit s
  | writeProfile => exact atMostOneIssue_takeWriteProfile s args
  | abandon => exact atMostOneIssue_takeAbandon s
  | softReset =>
    have hanswer : s.NoIssue (s.answerFrame (some .softReset) .ok []) := noIssue_of_port_eq rfl
    exact hanswer.trans_atMostOne (atMostOneIssue_softReset _)

theorem atMostOneIssue_nameCommand (s : State) (b : Byte) : s.AtMostOneIssue (s.nameCommand b) := by
  unfold nameCommand
  split
  · exact atMostOneIssue_of_port_eq rfl
  · split
    · exact atMostOneIssue_takeCommand s _ _
    · exact atMostOneIssue_of_port_eq rfl

theorem atMostOneIssue_addArgument (s : State) (c : Command) (received : List Byte) (b : Byte) :
    s.AtMostOneIssue (s.addArgument c received b) := by
  unfold addArgument
  split
  · exact atMostOneIssue_of_port_eq rfl
  · exact atMostOneIssue_takeCommand s _ _

/-- A byte position issues an access only by the command its byte completes (R186). -/
theorem atMostOneIssue_clockByte (s : State) (b : Byte) : s.AtMostOneIssue (s.clockByte b) := by
  have hdrive : s.NoIssue (s.drive Config.fill) := noIssue_of_port_eq (drive_port s _)
  unfold clockByte
  split
  · exact .refl s
  · cases s.mgmt.phase with
    | idle | ignore | response | trailing => exact atMostOneIssue_of_port_eq rfl
    | command => exact hdrive.trans_atMostOne (atMostOneIssue_nameCommand _ b)
    | arguments c received => exact hdrive.trans_atMostOne (atMostOneIssue_addArgument _ c received b)

theorem startFrame_port (s : State) : s.startFrame.port = s.port := by
  unfold startFrame
  split <;> rfl

theorem endFrame_port (s : State) : s.endFrame.port = s.port := by
  unfold endFrame
  split <;> rfl

theorem AtMostOneIssue.of_next (h : (.next u : Host.Outcome State Fault Refusal) = .next t)
    (hu : s.AtMostOneIssue u) : s.AtMostOneIssue t := by
  cases h
  exact hu

end State

/-! ### Every command -/

open State

theorem execFrameDiscardedInReset_atMostOneIssue {s t : State} {header : BitVec 64} {data : List Byte}
    (h : execFrameDiscardedInReset header data s = .next t) : s.AtMostOneIssue t := by
  unfold execFrameDiscardedInReset at h
  split at h
  · exact .of_next h (.refl s)
  · exact .of_next h (atMostOneIssue_arriveFrame s header data)

theorem execCompletion_atMostOneIssue {s t : State} {head : Byte} {data : List Byte}
    (h : execCompletion head data s = .next t) : s.AtMostOneIssue t := by
  unfold execCompletion at h
  split at h
  · exact .of_next h (.refl s)
  · exact .of_next h (atMostOneIssue_completion s (completionNumber head) (completionOk head) data)

theorem execPowerOnResetEnd_atMostOneIssue {s t : State} {mcV : Bool} (h : execPowerOnResetEnd mcV s = .next t) :
    s.AtMostOneIssue t := by
  unfold execPowerOnResetEnd at h
  refine .of_next h ?_
  split
  · exact atMostOneIssue_of_port_eq rfl
  · exact .refl s

/-- A level of RESET_N that no tick samples changes nothing (R200, R201). -/
theorem exec_powerOnReset_of_stopped {s : State} (h : s.pins.refclkRunning = false) :
    exec .powerOnReset s = .next s :=
  congrArg Host.Outcome.next (if_neg (by simp [h]))

theorem exec_powerOnReset_of_running {s : State} (h : s.pins.refclkRunning = true) :
    exec .powerOnReset s = .next s.powerOn :=
  congrArg Host.Outcome.next (if_pos h)

/-- Every command but a power-on reset that takes place issues at most one access (R79). -/
theorem exec_atMostOneIssue {c : Instr} {s t : State} (h : exec c s = .next t)
    (hc : c ≠ .powerOnReset ∨ s.pins.refclkRunning = false) : s.AtMostOneIssue t := by
  cases c with
  | read i tag a size hint => exact .of_next h (atMostOneIssue_arrive s ⟨i, tag, .read a size hint⟩)
  | write i tag a size hint data => exact .of_next h (atMostOneIssue_arrive s ⟨i, tag, .write a size hint data⟩)
  | lockedRead i tag a size => exact .of_next h (atMostOneIssue_arrive s ⟨i, tag, .lockedRead a size⟩)
  | lockedWrite i tag a size data => exact .of_next h (atMostOneIssue_arrive s ⟨i, tag, .lockedWrite a size data⟩)
  | lockDrop i tag => exact .of_next h (atMostOneIssue_arrive s ⟨i, tag, .lockDrop⟩)
  | fence i tag => exact .of_next h (atMostOneIssue_arrive s ⟨i, tag, .fence⟩)
  | discard i tag => exact .of_next h (atMostOneIssue_arrive s ⟨i, tag, .discard⟩)
  | malformedRequest header data => exact .of_next h (atMostOneIssue_arriveFrame s header data)
  | frameDiscardedInReset => exact execFrameDiscardedInReset_atMostOneIssue h
  | linkReset => exact .of_next h (atMostOneIssue_linkReset s)
  | linkUp => exact .of_next h (atMostOneIssue_linkUp s)
  | powerOnReset =>
    have hstopped : s.pins.refclkRunning = false := hc.resolve_left (fun hne => hne rfl)
    rw [exec_powerOnReset_of_stopped hstopped] at h
    exact .of_next h (.refl s)
  | powerOnResetEnd => exact execPowerOnResetEnd_atMostOneIssue h
  | completion => exact execCompletion_atMostOneIssue h
  | memoryTimerExpiry => exact .of_next h (atMostOneIssue_expire s _ atMostOneIssue_memoryExpired)
  | mergeTimerExpiry => exact .of_next h (atMostOneIssue_expire s _ fun _ => atMostOneIssue_judge_of_port_eq rfl)
  | drainTimerExpiry entry => exact .of_next h (atMostOneIssue_expire s _ (atMostOneIssue_drainExpired · entry))
  | pacingExpiry => exact .of_next h (atMostOneIssue_expire s _ fun _ => atMostOneIssue_judge_of_port_eq rfl)
  | retentionTimerExpiry k => exact .of_next h (atMostOneIssue_expire s _ (atMostOneIssue_retentionExpired · k))
  | lockTimerExpiry k =>
    exact .of_next h (atMostOneIssue_expire s _ fun t => atMostOneIssue_of_port_eq (lockExpired_port t k))
  | reservationTimerExpiry =>
    exact .of_next h (atMostOneIssue_expire s _ fun t => atMostOneIssue_of_port_eq (reservationExpired_port t))
  | frameStart => exact .of_next h (atMostOneIssue_of_port_eq (startFrame_port s))
  | frameEnd => exact .of_next h (atMostOneIssue_of_port_eq (endFrame_port s))
  | mcVFalling => exact .of_next h (atMostOneIssue_of_port_eq rfl)
  | badCommand | status | readRegion | writeRegion | copyActive | commit | readProfile | writeProfile | readLimit
  | writeLimit | popFault | abandon | softReset | byteReceived | bytePositionClocked =>
    exact .of_next h (atMostOneIssue_clockByte s _)

/-- Settles O40: the issues of every command, and the counter that a power-on reset leaves. -/
theorem accessNumbersCountIssues : Obligations.AccessNumbersCountIssues := by
  constructor
  · intro c s t h hc
    exact exec_atMostOneIssue h hc
  · intro s t hrunning h
    rw [exec_powerOnReset_of_running hrunning] at h
    cases h
    rfl

end Sys2Proof.Machine
end

section
/-! Arrivals at the Capture Table: the exact re-issue (R107), the read of a latch's other half (R112, R113) and DISCARD
(R117). What the lookup gives decides each: an answer ends the arrival, and only a freed place wakes the Issue
Arbiter. -/

namespace Sys2Proof.Machine

open Sys2Proof

/-! ### The half of a word that an address names -/

theorem inHighHalf_eq_false_iff (a : Addr) : inHighHalf a = false ↔ a.toNat % 8 < 4 := by
  have hbit : inHighHalf a = a.toNat.testBit 2 := rfl
  rw [hbit, Nat.testBit_eq_decide_div_mod_eq, decide_eq_false_iff_not]
  omega

theorem halfOf_eq (word : List Byte) (a : Addr) :
    halfOf word a = if a.toNat % 8 < 4 then word.take 4 else word.drop 4 := by
  by_cases hlow : a.toNat % 8 < 4
  · simp [halfOf, hlow, (inHighHalf_eq_false_iff a).2 hlow]
  · simp [halfOf, hlow, mt (inHighHalf_eq_false_iff a).1 hlow]

theorem CaptureKey.recordHalf_split (word a : Addr) (low high : Option Tag) (t : Tag) :
    (CaptureKey.split word low high).recordHalf a t =
      if a.toNat % 8 < 4 then .split word (some t) high else .split word low (some t) := by
  by_cases hlow : a.toNat % 8 < 4
  · simp [recordHalf, hlow, (inHighHalf_eq_false_iff a).2 hlow]
  · simp [recordHalf, hlow, mt (inHighHalf_eq_false_iff a).1 hlow]

theorem CaptureKey.isBoth_split_eq_false_iff (word : Addr) (low high : Option Tag) :
    (CaptureKey.split word low high).isBoth = false ↔ low = none ∨ high = none := by
  simp only [isBoth, Bool.and_eq_false_iff, Option.isSome_eq_false_iff, Option.isNone_iff_eq_none]

/-! ### What a capture answers -/

namespace Capture

variable {c : Capture}

theorem dataFor_of_replay {tag : Tag} {b : Addr} {size : Size} (h : c.key = .replay tag b size) (a : Addr) :
    c.dataFor a = c.data := by
  simp only [dataFor, h]

theorem dataFor_of_split {word : Addr} {low high : Option Tag} (h : c.key = .split word low high) (a : Addr) :
    c.dataFor a = if a.toNat % 8 < 4 then c.data.take 4 else c.data.drop 4 := by
  simp only [dataFor, h, halfOf_eq]

theorem splitFor_of_split {word : Addr} {low high : Option Tag} (h : c.key = .split word low high) :
    c.splitFor c.initiator word = true := by
  simp [splitFor, h]

end Capture

namespace State

variable {s : State} {k : Fin 8} {c : Capture}

/-! ### The lookup -/

/-- Step 1 of R106: the capture that records the read answers it. -/
theorem lookup_of_recordsRead {i : Initiator} {t : Tag} {a : Addr} {size : Size} {hint : Hint}
    (hfind : s.findCapture (fun d => d.recordsRead i t a size) = some (k, c)) :
    s.lookup { initiator := i, tag := t, kind := .read a size hint } =
      (true, s.answerReplay { initiator := i, tag := t, kind := .read a size hint } k c a) := by
  simp only [lookup, hfind]

/-- Step 2 of R106: with no capture that records it, a 4-byte READ goes to its word's latch. -/
theorem lookup_of_read_b4 {i : Initiator} {t : Tag} {a : Addr} {hint : Hint}
    (hnone : s.findCapture (fun d => d.recordsRead i t a .b4) = none) :
    s.lookup { initiator := i, tag := t, kind := .read a .b4 hint } =
      s.latchStep { initiator := i, tag := t, kind := .read a .b4 hint } a := by
  simp only [lookup, hnone, if_true]

/-- A latch in state HALF answers (R112). -/
theorem latchStep_of_half {r : Request} {a : Addr}
    (hfind : s.findCapture (fun d => d.splitFor r.initiator (wordOf a)) = some (k, c)) (hhalf : c.key.isBoth = false) :
    s.latchStep r a = (true, s.answerLatch r k c a) := by
  simp only [latchStep, hfind, hhalf, Bool.false_eq_true, if_false]

/-! ### The arrival -/

/-- An arrival that the Capture Table answers, whose effects u take nothing into a queue and move no head. -/
theorem exec_of_answered {r : Request} {u : State} (h : s.Receives r) (hlookup : s.lookup r = (true, u))
    (hseq : u.fabric.nextSeq = s.fabric.nextSeq) (hposting : u.posting = s.posting) :
    exec r.command s = .next (s.settled u) := by
  rw [exec_command, s.arrive_of_receives h, process, hlookup, ← s.decide_settled hseq (by rw [hposting])]
  rfl

/-- Where no place is freed, no decision follows. -/
theorem settled_of_placesInUse_eq {u : State} (h : u.placesInUse = s.placesInUse) : s.settled u = u := by
  simp [settled, h]

/-- A capture that takes the place of another frees no place. -/
theorem placesInUse_putCapture (hk : s.holdsCapture k c) (d : Capture) :
    (s.putCapture k d).placesInUse = s.placesInUse := by
  apply vcount_congr
  intro j
  by_cases hj : j = k
  · have hold : (s.captures.get k).capture = some c := hk
    simp [putCapture, hj, Place.inUse, hold]
  · simp [putCapture, hj]

/-- An exact re-issue frees no place, so its answer is all that it does (R107). -/
theorem settled_answerReplay (hk : s.holdsCapture k c) (r : Request) (a : Addr) :
    s.settled (s.answerReplay r k c a) = s.answerReplay r k c a :=
  settled_of_placesInUse_eq (placesInUse_putCapture hk _)

theorem putCapture_dropCaptures (test : Capture → Bool) (d : Capture) :
    (s.dropCaptures test).putCapture k d =
      { s with
        captures :=
          vset (vmap (Place.drop test) s.captures) k { s.captures.get k with capture := some d } } := by
  simp only [putCapture, dropCaptures, get_vmap, Place.claim_drop]

end State

/-- Settles O23: the lookup finds the capture, and restarting its timer frees no place. -/
theorem exactReissuesAreReplayed : Obligations.ExactReissuesAreReplayed := by
  intro s i t a size hint k c hreceives hholds hrecords hunique
  have hfind := s.findCapture_eq_some (test := fun d => d.recordsRead i t a size) hholds hrecords hunique
  have hexec := State.exec_of_answered hreceives (State.lookup_of_recordsRead hfind) rfl rfl
  rw [State.settled_answerReplay hholds] at hexec
  refine hexec.trans ?_
  rw [State.answerReplay, Capture.replayAnswer]
  cases c.result with
  | ok =>
    cases hkey : c.key with
    | replay => rw [Capture.dataFor_of_replay hkey]; rfl
    | split => rw [Capture.dataFor_of_split hkey]; rfl
  | portError | portTimeout => rfl

/-- Settles O24: no capture records the read, so the lookup comes to the latch, which is in state HALF. -/
theorem latchesAnswerTheOtherHalf : Obligations.LatchesAnswerTheOtherHalf := by
  rintro s i t a hint k c low high hreceives hholds rfl hkey hhalf hunrecorded hunique
  have hnone := s.findCapture_eq_none (test := fun d => d.recordsRead c.initiator t a .b4) hunrecorded
  have hfind := s.findCapture_eq_some (test := fun d => d.splitFor c.initiator (wordOf a)) hholds
    (Capture.splitFor_of_split hkey) hunique
  have hnotBoth : c.key.isBoth = false := by rw [hkey, CaptureKey.isBoth_split_eq_false_iff]; exact hhalf
  have hlookup := (State.lookup_of_read_b4 hnone (hint := hint)).trans (State.latchStep_of_half hfind hnotBoth)
  refine (State.exec_of_answered hreceives hlookup rfl rfl).trans ?_
  rw [State.answerLatch, State.putCapture_dropCaptures, hkey, CaptureKey.recordHalf_split, Capture.latchAnswer,
    Capture.dataFor_of_split hkey]
  cases c.result <;> rfl

/-- Settles O25: a DISCARD is no READ, so the lookup forgets the captures of its tag and step 4 answers. -/
theorem discardRemovesTheCapturesOfItsTag : Obligations.DiscardRemovesTheCapturesOfItsTag := by
  intro s i t hup hfresh
  have hunanswered : s.Unanswered { initiator := i, tag := t, kind := .discard } :=
    s.unanswered_of_not_read fun _ _ _ => RequestKind.noConfusion
  refine (s.exec_settled ⟨hup, rfl, hfresh⟩ hunanswered rfl rfl rfl).trans ?_
  have hforgets : Request.forgets { initiator := i, tag := t, kind := .discard } = fun c => c.recordsTag i t := by
    funext c
    exact Bool.or_false _
  rw [State.lookedUp, hforgets, State.dropCaptures, funext (Place.drop_eq _)]
  rfl

end Sys2Proof.Machine
end

section
/-! The locked commands at the kind step: LOCKED_READ (R127, R128), LOCKED_WRITE (R133) and LOCK_DROP (R136). The taking
of an access is said once, then one lemma for each branch of the three kind steps. -/

namespace Sys2Proof.Machine

open Sys2Proof

/-! ### Sealing keeps what a waits-for set reads -/

@[simp] theorem PostingEntry.seq_close (e : PostingEntry) : e.close.seq = e.seq := by rw [close]; split <;> rfl

@[simp] theorem PostingEntry.line_close (e : PostingEntry) : e.close.line = e.line := by rw [close]; split <;> rfl

@[simp] theorem PostingEntry.mask_close (e : PostingEntry) : e.close.mask = e.mask := by rw [close]; split <;> rfl

@[simp] theorem length_closeWhere (test : PostingEntry → Bool) (q : List PostingEntry) :
    (closeWhere test q).length = q.length := List.length_map _

/-- A choice of entries that sealing cannot change has the same sequence numbers after it. -/
theorem map_seq_filter_closeWhere {p : PostingEntry → Bool} (hp : ∀ e : PostingEntry, p e.close = p e)
    (test : PostingEntry → Bool) (q : List PostingEntry) :
    ((closeWhere test q).filter p).map (·.seq) = (q.filter p).map (·.seq) := by
  induction q with
  | nil => rfl
  | cons e q ih =>
    have hhead : p (if test e then e.close else e) = p e := by split <;> simp [hp]
    have hseq : (if test e then e.close else e).seq = e.seq := by split <;> simp
    simp only [closeWhere, List.map_cons, List.filter_cons, hhead] at ih ⊢
    split <;> simp [ih, hseq]

namespace State

variable {s : State} {r : Request} {c : Classification} {a : Addr} {size : Size} {k : Fin 2}

/-! ### The taking of an access -/

theorem waitsForSet_lockedRead {cls : AccessClass} (h : cls ≠ .blocked) :
    s.waitsForSet .lockedRead cls a size =
      if cls = .device then [] else (s.posting.filter fun e => e.line == lineOf a).map (·.seq) := by
  cases cls with
  | blocked => contradiction
  | device | merge | posted => rfl

theorem waitsForSet_lockedWrite {cls : AccessClass} (h : cls ≠ .blocked) :
    s.waitsForSet .lockedWrite cls a size =
      if cls = .device then []
      else (s.posting.filter fun e => e.line == lineOf a && overlaps e.mask (byteMask a size)).map (·.seq) := by
  cases cls with
  | blocked => contradiction
  | device => rfl
  | merge | posted => simp [waitsForSet, entriesFor, List.filter_filter, Bool.and_comm]

/-- The waits-for set is the same before the sealing of its own taking as after it (R32, R36). -/
theorem waitsForSet_sealWhere (test : PostingEntry → Bool) (kind : AccessKind) (cls : AccessClass) :
    (s.sealWhere test).waitsForSet kind cls a size = s.waitsForSet kind cls a size := by
  cases cls with
  | device | blocked => rfl
  | merge | posted =>
    cases kind with
    | lockedRead =>
      exact map_seq_filter_closeWhere (p := fun e => e.line == lineOf a) (by simp) test s.posting
    | read | write | lockedWrite =>
      simp only [waitsForSet, entriesFor, List.filter_filter]
      exact map_seq_filter_closeWhere (by simp) test s.posting

/-- The taking of an access: entries are sealed, and the request joins the Wait List with the set of the queue as it was
(R32, R36, R54). -/
theorem takeAccess_eq (s : State) (r : Request) (kind : AccessKind) (c : Classification) (a : Addr) (size : Size)
    (data : List Byte) :
    s.takeAccess r kind c a size data =
      { s with
        posting := closeWhere (fun e => c.cls == .device || e.line == lineOf a) s.posting
        waiting := s.waiting ++ [s.waitEntry r kind c a size data (s.waitsForSet kind c.cls a size)]
        fabric := s.tagTaken r } := by
  simp only [takeAccess, waitsForSet_sealWhere]
  rfl

/-- An arrival the lookup does not answer and whose access is taken is an event of R72. Here t is s after the kind step's
other effects, which leave the Posting Queue and the Fabric Port as they are. -/
theorem exec_takeAccess {t : State} {kind : AccessKind} {data : List Byte} (h : s.Receives r) (hu : s.Unanswered r)
    (htaken : (s.lookedUp r).accept r = t.takeAccess r kind c a size data) (hfabric : t.fabric = s.fabric)
    (hposting : t.posting = s.posting) : exec r.command s = .next (t.takeAccess r kind c a size data).judge := by
  rw [takeAccess_eq] at htaken ⊢
  exact s.exec_taken h hu htaken (by simp [tagTaken, hfabric]) (by simp [hposting])

/-! ### Slots: a FREE one, and the one an initiator owns -/

theorem freeSlot_eq_none_iff : s.locks.freeSlot = none ↔ ∀ k, s.locks.slots.get k ≠ .free := by
  simp [LockUnit.freeSlot, vfind_none]

theorem exists_freeSlot (h : ∃ k, s.locks.slots.get k = .free) : ∃ k, s.locks.freeSlot = some k := by
  rw [← Option.ne_none_iff_exists', ne_eq, freeSlot_eq_none_iff]
  push Not
  exact h

theorem slot_free_of_freeSlot (h : s.locks.freeSlot = some k) : s.locks.slots.get k = .free := by
  simpa using vfind_some h

/-- The slot found for an initiator is the only one it owns. -/
theorem ownedBy_of_slot {i : Initiator} {slot : LockSlot} (hslot : s.locks.slots.get k = slot)
    (howner : slot.owner = some i) (hunique : ∀ j, (s.locks.slots.get j).owner = some i → j = k) :
    s.locks.ownedBy i = some k :=
  s.ownedBy_eq_some (hslot ▸ howner) hunique

theorem ownedBy_of_busy {i : Initiator} {line : Addr} {n : Nat}
    (hslot : s.locks.slots.get k = .pending i line n ∨ s.locks.slots.get k = .closing i line n)
    (hunique : ∀ j, (s.locks.slots.get j).owner = some i → j = k) : s.locks.ownedBy i = some k := by
  rcases hslot with hslot | hslot <;> exact ownedBy_of_slot hslot rfl hunique

/-! ### LOCKED_READ: the checks of R127 -/

theorem kindLockedRead_of_owner (h : ¬ s.OwnsNone r.initiator) :
    s.kindLockedRead r c a size = s.respond (r.answer .protocol) := by
  rw [← ownedBy_eq_none_iff] at h
  simp only [kindLockedRead, Option.isSome_iff_ne_none.2 h, if_true]

theorem kindLockedRead_of_forbidden (hnone : s.OwnsNone r.initiator) (h : c.locking = .forbidden) :
    s.kindLockedRead r c a size = s.respond (r.answerReason .declined .lockingForbidden) := by
  simp [kindLockedRead, (s.ownedBy_eq_none_iff _).2 hnone, h]

theorem kindLockedRead_of_noSlot (hnone : s.OwnsNone r.initiator) (hallowed : c.locking = .allowed)
    (h : ∀ k, s.locks.slots.get k ≠ .free) : s.kindLockedRead r c a size = s.refuseRetry r .noLockSlot := by
  simp [kindLockedRead, (s.ownedBy_eq_none_iff _).2 hnone, hallowed, s.freeSlot_eq_none_iff.2 h]

theorem kindLockedRead_of_reserved (hnone : s.OwnsNone r.initiator) (hallowed : c.locking = .allowed)
    (hfree : s.locks.freeSlot = some k)
    (h : s.ReservedFrom r.initiator .lockSlot ∨ s.ReservedFrom r.initiator (.line (lineOf a))) :
    s.kindLockedRead r c a size = s.refuseRetry r .reserved := by
  simp only [← reservedAgainst_iff] at h
  simp [kindLockedRead, (s.ownedBy_eq_none_iff _).2 hnone, hallowed, hfree, h]

theorem kindLockedRead_of_unreserved (hnone : s.OwnsNone r.initiator) (hallowed : c.locking = .allowed)
    (hfree : s.locks.freeSlot = some k)
    (h : ¬ (s.ReservedFrom r.initiator .lockSlot ∨ s.ReservedFrom r.initiator (.line (lineOf a)))) :
    s.kindLockedRead r c a size = s.formLock k r c a size := by
  simp only [← reservedAgainst_iff] at h
  simp [kindLockedRead, (s.ownedBy_eq_none_iff _).2 hnone, hallowed, hfree, h]

/-! ### LOCKED_WRITE: the rows of R133 -/

theorem kindLockedWrite_of_held {data : List Byte} {o : Initiator} {line : Addr} {e : Nat}
    (howned : s.locks.ownedBy r.initiator = some k) (hslot : s.locks.slots.get k = .held o line e) :
    s.kindLockedWrite r c a size data =
      if line = lineOf a then s.closeLock k r c a size data else s.respond (r.answer .protocol) := by
  simp only [kindLockedWrite, howned, hslot]

theorem kindLockedWrite_of_busy {data : List Byte} {o : Initiator} {line : Addr} {n : Nat}
    (howned : s.locks.ownedBy r.initiator = some k)
    (hslot : s.locks.slots.get k = .pending o line n ∨ s.locks.slots.get k = .closing o line n) :
    s.kindLockedWrite r c a size data = s.respond (r.answer .protocol) := by
  rcases hslot with hslot | hslot <;> simp only [kindLockedWrite, howned, hslot]

theorem kindLockedWrite_of_ownsNone {data : List Byte} (hnone : s.OwnsNone r.initiator) :
    s.kindLockedWrite r c a size data =
      if s.locks.markers.get r.initiator = some (lineOf a) then s.answerLockLost r
      else s.respond (r.answer .protocol) := by
  simp only [kindLockedWrite, (s.ownedBy_eq_none_iff _).2 hnone]

/-! ### LOCK_DROP: the rows of R136 -/

theorem kindLockDrop_of_held {o : Initiator} {line : Addr} {e : Nat} (howned : s.locks.ownedBy r.initiator = some k)
    (hslot : s.locks.slots.get k = .held o line e) :
    s.kindLockDrop r = { s with locks := s.locks.put k .free }.respond (r.answer .done) := by
  simp only [kindLockDrop, howned, hslot]

theorem kindLockDrop_of_busy {o : Initiator} {line : Addr} {n : Nat} (howned : s.locks.ownedBy r.initiator = some k)
    (hslot : s.locks.slots.get k = .pending o line n ∨ s.locks.slots.get k = .closing o line n) :
    s.kindLockDrop r = s.respond (r.answer .protocol) := by
  rcases hslot with hslot | hslot <;> simp only [kindLockDrop, howned, hslot]

theorem kindLockDrop_of_ownsNone (hnone : s.OwnsNone r.initiator) :
    s.kindLockDrop r =
      if (s.locks.markers.get r.initiator).isSome then s.answerLockLost r else s.respond (r.answer .protocol) := by
  simp only [kindLockDrop, (s.ownedBy_eq_none_iff _).2 hnone]

end State

/-- Settles O31: the checks of R127 in their order; where none refuses, the lock is formed in the slot the Lock Unit
finds FREE and the read is taken. -/
theorem lockedReadsFormLocks : Obligations.LockedReadsFormLocks := by
  intro s i t a size r c reserved hreceives hclass hlimit hopen
  have hunanswered : s.Unanswered r := s.unanswered_of_not_read fun _ _ _ => RequestKind.noConfusion
  have haccept : (s.lookedUp r).accept r = (s.lookedUp r).kindLockedRead r c a size :=
    (s.lookedUp r).accept_lockedRead hclass hlimit hopen
  refine ⟨fun howner => ?_, fun hnone hforbidden => ?_, fun hnone hallowed hnoSlot => ?_,
    fun hnone hallowed hfree hreserved => ?_, fun hnone hallowed hfree hunreserved => ?_⟩
  · exact s.exec_settled hreceives hunanswered (haccept.trans (State.kindLockedRead_of_owner howner)) rfl rfl
  · exact s.exec_settled hreceives hunanswered
      (haccept.trans (State.kindLockedRead_of_forbidden hnone hforbidden)) rfl rfl
  · exact s.exec_settled hreceives hunanswered
      (haccept.trans (State.kindLockedRead_of_noSlot hnone hallowed hnoSlot)) rfl rfl
  · obtain ⟨k, hk⟩ := State.exists_freeSlot hfree
    exact s.exec_settled hreceives hunanswered
      (haccept.trans (State.kindLockedRead_of_reserved hnone hallowed hk hreserved)) rfl rfl
  · obtain ⟨k, hk⟩ := State.exists_freeSlot hfree
    refine ⟨k, State.slot_free_of_freeSlot hk, ?_⟩
    have hformed := haccept.trans (State.kindLockedRead_of_unreserved hnone hallowed hk hunreserved)
    refine (State.exec_takeAccess hreceives hunanswered hformed rfl rfl).trans ?_
    rw [State.takeAccess_eq, State.waitsForSet_lockedRead hclass]
    rfl

/-- Settles O32: each row of R133; the closing write is taken, every other one is answered. -/
theorem lockedWritesCloseLocks : Obligations.LockedWritesCloseLocks := by
  intro s i t a size data r c refused hreceives hclass hlimit hopen
  have hunanswered : s.Unanswered r := s.unanswered_of_not_read fun _ _ _ => RequestKind.noConfusion
  have haccept : (s.lookedUp r).accept r = (s.lookedUp r).kindLockedWrite r c a size data :=
    (s.lookedUp r).accept_lockedWrite hclass hlimit hopen
  have hrefused (h : (s.lookedUp r).kindLockedWrite r c a size data = (s.lookedUp r).respond (r.answer .protocol)) :
      refused := s.exec_settled hreceives hunanswered (haccept.trans h) rfl rfl
  refine ⟨fun k line e hslot hunique => ?_, fun k line n hslot hunique => ?_, fun hnone hmarker => ?_,
    fun hnone hmarker => ?_⟩
  · have hkind := State.kindLockedWrite_of_held (s := s.lookedUp r) (r := r) (c := c) (a := a) (size := size)
      (data := data) (State.ownedBy_of_slot hslot rfl hunique) hslot
    refine ⟨fun hline => ?_, fun hline => hrefused (hkind.trans (if_neg hline))⟩
    have hclosed := haccept.trans (hkind.trans (if_pos hline))
    refine (State.exec_takeAccess hreceives hunanswered hclosed rfl rfl).trans ?_
    rw [State.takeAccess_eq, State.waitsForSet_lockedWrite hclass]
    rfl
  · exact hrefused (State.kindLockedWrite_of_busy (State.ownedBy_of_busy hslot hunique) hslot)
  · have hlost : (s.lookedUp r).kindLockedWrite r c a size data = (s.lookedUp r).answerLockLost r :=
      (State.kindLockedWrite_of_ownsNone hnone).trans (if_pos hmarker)
    exact s.exec_settled hreceives hunanswered (haccept.trans hlost) rfl rfl
  · exact hrefused ((State.kindLockedWrite_of_ownsNone hnone).trans (if_neg hmarker))

/-- Settles O33: each row of R136, none of which takes anything into a queue. -/
theorem lockDropEndsALock : Obligations.LockDropEndsALock := by
  intro s i t r refused hreceives
  have hunanswered : s.Unanswered r := s.unanswered_of_not_read fun _ _ _ => RequestKind.noConfusion
  have hrefused (h : (s.lookedUp r).kindLockDrop r = (s.lookedUp r).respond (r.answer .protocol)) : refused :=
    s.exec_settled hreceives hunanswered h rfl rfl
  refine ⟨fun k line e hslot hunique => ?_, fun k line n hslot hunique => ?_, fun hnone hmarker => ?_,
    fun hnone hmarker => ?_⟩
  · have hdropped := State.kindLockDrop_of_held (s := s.lookedUp r) (r := r)
      (State.ownedBy_of_slot hslot rfl hunique) hslot
    exact s.exec_settled hreceives hunanswered hdropped rfl rfl
  · exact hrefused (State.kindLockDrop_of_busy (State.ownedBy_of_busy hslot hunique) hslot)
  · have hlost : (s.lookedUp r).kindLockDrop r = (s.lookedUp r).answerLockLost r :=
      (State.kindLockDrop_of_ownsNone hnone).trans (if_pos hmarker)
    exact s.exec_settled hreceives hunanswered hlost rfl rfl
  · have hunmarked : ¬ (s.locks.markers.get i).isSome = true := by simp [hmarker]
    exact hrefused ((State.kindLockDrop_of_ownsNone hnone).trans (if_neg hunmarked))

end Sys2Proof.Machine
end

section
/-! Responses at the Progress Monitor: a response of the other group (R145, R147) and a RETRY (R145, R146, R148, R149).
Each is said once for the initiator that is the head of the Favoured List and once for every other one. -/

namespace Sys2Proof.Machine

open Sys2Proof

/-- The count of a RETRY as R145 has it: one more, and never above 15. -/
theorem val_countUp (c : Fin 16) : (countUp c).val = min 15 (c.val + 1) := by
  rw [countUp]
  split
  case isTrue hbelow => exact (Nat.min_eq_right (Nat.lt_succ_iff.1 hbelow)).symm
  case isFalse hfull => exact (Nat.min_eq_left (by omega)).symm

/-- In a list without repeats, taking the head away leaves the members that differ from it. -/
theorem tail_eq_filter_of_head {α : Type} [DecidableEq α] {l : List α} {a : α} (hnodup : l.Nodup)
    (hhead : l.head? = some a) : l.tail = l.filter (· ≠ a) := by
  obtain ⟨rest, rfl⟩ := List.head?_eq_some_iff.1 hhead
  have hrest : ∀ b ∈ rest, decide (b ≠ a) = true := fun b hb =>
    decide_eq_true fun hba => (List.nodup_cons.1 hnodup).1 (hba ▸ hb)
  rw [List.filter_cons_of_neg (by simp), List.filter_eq_self.2 hrest, List.tail_cons]

namespace ProgressMonitor

variable {p : ProgressMonitor} {i : Initiator}

theorem isHead_iff : p.isHead i = true ↔ p.favoured.head? = some i := beq_iff_eq

/-! ### A response of the other group -/

theorem other_of_head (hhead : p.favoured.head? = some i) (expiry : Nat) :
    p.other i expiry = { p with counts := vset p.counts i 0 }.dropHead expiry := if_pos (isHead_iff.2 hhead)

theorem other_of_not_head (hhead : p.favoured.head? ≠ some i) (expiry : Nat) :
    p.other i expiry = { p with counts := vset p.counts i 0, favoured := p.favoured.filter (· ≠ i) } := by
  have hdiffers : (fun j : Initiator => j != i) = fun j => decide (j ≠ i) := funext fun _ => (decide_not ..).symm
  rw [← hdiffers]
  exact if_neg (mt isHead_iff.1 hhead)

/-- The count goes back to 0, member or not (R145). -/
theorem counts_other (expiry : Nat) : (p.other i expiry).counts = vset p.counts i 0 := by
  by_cases hhead : p.favoured.head? = some i
  · rw [other_of_head hhead, dropHead]
  · rw [other_of_not_head hhead]

/-- The initiator leaves the Favoured List, from its head or from further back (R147). -/
theorem favoured_other (hnodup : p.favoured.Nodup) (expiry : Nat) :
    (p.other i expiry).favoured = p.favoured.filter (· ≠ i) := by
  by_cases hhead : p.favoured.head? = some i
  · rw [other_of_head hhead]
    exact tail_eq_filter_of_head hnodup hhead
  · rw [other_of_not_head hhead]

/-- When the head has left, the timer runs exactly where there is a member to promote (R147, R148). -/
theorem reservation_dropHead (expiry : Nat) :
    (p.dropHead expiry).reservation = if (p.dropHead expiry).favoured = [] then none else some expiry := by
  simp [dropHead]

/-! ### A RETRY -/

/-- The monitor when a RETRY has been counted and the initiator has joined where it is due (R145, R146), before the
refusal of a head sets anything. -/
def counted (p : ProgressMonitor) (i : Initiator) (threshold : Nat) : ProgressMonitor :=
  { p with
    counts := vset p.counts i (countUp (p.counts.get i))
    favoured :=
      if threshold ≤ (countUp (p.counts.get i)).val ∧ i ∉ p.favoured then p.favoured ++ [i] else p.favoured }

variable (cause : RetryCause) (threshold expiry : Nat)

theorem retry_eq :
    p.retry i cause threshold expiry =
      if (p.counted i threshold).isHead i then
        { p.counted i threshold with wanted := cause.wanted p.wanted, reservation := some expiry }
      else p.counted i threshold := rfl

theorem counts_retry :
    (p.retry i cause threshold expiry).counts = vset p.counts i (countUp (p.counts.get i)) := by
  rw [retry_eq]; split <;> rfl

/-- The refusal of a head does not change who is favoured. -/
theorem favoured_retry_eq_counted :
    (p.retry i cause threshold expiry).favoured = (p.counted i threshold).favoured := by
  rw [retry_eq]; split <;> rfl

/-- The initiator joins at the end, where its new count is at the threshold and it is no member (R146). -/
theorem favoured_retry :
    (p.retry i cause threshold expiry).favoured =
      if threshold ≤ ((p.retry i cause threshold expiry).counts.get i).val ∧ i ∉ p.favoured then
        p.favoured ++ [i]
      else p.favoured := by
  rw [favoured_retry_eq_counted, counts_retry, get_vset_self, counted]

theorem retry_of_head (hhead : (p.retry i cause threshold expiry).favoured.head? = some i) :
    p.retry i cause threshold expiry =
      { p.counted i threshold with wanted := cause.wanted p.wanted, reservation := some expiry } := by
  rw [favoured_retry_eq_counted] at hhead
  exact if_pos (isHead_iff.2 hhead)

theorem retry_of_not_head (hhead : (p.retry i cause threshold expiry).favoured.head? ≠ some i) :
    p.retry i cause threshold expiry = p.counted i threshold := by
  rw [favoured_retry_eq_counted] at hhead
  exact if_neg (mt isHead_iff.1 hhead)

end ProgressMonitor

open ProgressMonitor in
/-- Settles O22: both groups of responses, the fields of the monitor one by one, with the head told apart from the
other initiators. -/
theorem responsesDriveTheProgressMonitor : Obligations.ResponsesDriveTheProgressMonitor := by
  refine ⟨fun s r hnodup => ⟨rfl, fun i => ?count, favoured_other hnodup _, ?head⟩,
    fun s r cause => ⟨_, rfl, ?risen, fun i hi => ?others, favoured_retry .., ?refused⟩⟩
  case count => rw [counts_other, get_vset]
  case head =>
    split
    case isTrue hhead =>
      rw [other_of_head hhead]
      exact ⟨rfl, reservation_dropHead _⟩
    case isFalse hhead =>
      rw [other_of_not_head hhead]
      exact ⟨rfl, rfl⟩
  case risen => rw [counts_retry, get_vset_self, val_countUp]
  case others => rw [counts_retry, get_vset_of_ne _ _ hi]
  case refused =>
    split
    case isTrue hhead =>
      rw [retry_of_head _ _ _ hhead]
      exact ⟨by cases cause <;> rfl, rfl⟩
    case isFalse hhead =>
      rw [retry_of_not_head _ _ _ hhead]
      exact ⟨rfl, rfl⟩

end Sys2Proof.Machine
end

section
/-! A fault at the Fault Queue: stored while there is room (R179), counted in the youngest record while the queue is full
(R180). -/

namespace Sys2Proof.Machine

open Sys2Proof

/-- The overflow count of a lost fault as R180 has it: one more, and never above 255. -/
theorem FaultRecord.val_overflow_countLost (r : FaultRecord) :
    r.countLost.overflow.val = min 255 (r.overflow.val + 1) := by
  rw [countLost]
  split
  case isTrue hbelow => exact (Nat.min_eq_right (Nat.lt_succ_iff.1 hbelow)).symm
  case isFalse hfull => exact (Nat.min_eq_left (by omega)).symm

namespace FaultQueue

variable {q : FaultQueue} (b : FaultBody)

theorem handOver_of_room (hroom : q.records.length < 8) :
    q.handOver b =
      { records := q.records ++ [{ seq := q.next, body := b, overflow := 0 }], next := q.next + 1, faultN := .low } :=
  if_pos hroom

/-- A full queue keeps its records but for the youngest, and neither consumes a number nor drives FAULT_N (R180). -/
theorem handOver_of_full {older : List FaultRecord} {youngest : FaultRecord}
    (hrecords : q.records = older ++ [youngest]) (hfull : older.length = 7) :
    q.handOver b = { q with records := older ++ [youngest.countLost] } := by
  have hnoRoom : ¬ q.records.length < 8 := by simp [hrecords, hfull]
  rw [handOver, if_neg hnoRoom, hrecords, countLostInLast_append]

end FaultQueue

/-- Settles O52: the queue with room, and the full queue whose youngest record counts the lost fault. -/
theorem faultsAreStoredOrCounted : Obligations.FaultsAreStoredOrCounted := fun _ b =>
  ⟨FaultQueue.handOver_of_room b, fun _ youngest hrecords hfull =>
    ⟨youngest.countLost.overflow, youngest.val_overflow_countLost, FaultQueue.handOver_of_full b hrecords hfull⟩⟩

end Sys2Proof.Machine
end

section
/-! STATUS (R191): its two counts over fixed tables, read as the numbers of the places and of the slots in use, and the
command at its taking. -/

namespace Sys2Proof.Machine

open Sys2Proof

/-- A slot is in use exactly where it is not FREE (R123). -/
theorem LockSlot.inUse_eq_bne_free (slot : LockSlot) : slot.inUse = (slot != .free) := by
  cases slot with
  | free => rfl
  | pending owner line request => rfl
  | held owner line expiry => rfl
  | closing owner line request => rfl

namespace State

variable (s : State)

/-- The places in use, each holding a capture, a claim or both (R99). -/
theorem placesInUse_eq_length_filter :
    s.placesInUse =
      ((List.finRange 8).filter fun k =>
        (s.captures.get k).capture.isSome || (s.captures.get k).claim.isSome).length :=
  vcount_eq Place.inUse s.captures

/-- The slots in use are those that are not FREE (R123). -/
theorem slotsInUse_eq_length_filter :
    s.slotsInUse = ((List.finRange 2).filter fun k => s.locks.slots.get k != .free).length := by
  simp only [slotsInUse, vcount_eq, LockSlot.inUse_eq_bne_free]

/-- The fill driven for the command byte is in no field that STATUS gathers (R191). -/
theorem statusBytes_drive (b : Byte) : (s.drive b).statusBytes = s.statusBytes := rfl

/-- STATUS at its taking gives the fields as they stand, and changes the Management Port alone (R191). -/
theorem takeStatus_drive :
    (s.drive Config.fill).takeStatus = { s with mgmt := s.replying (some .status) 0x00 s.statusBytes } := by
  rw [takeStatus, statusBytes_drive, drive_answerFrame]
  rfl

end State

theorem exec_status_of_atCommand {s : State} (h : s.AtCommand) :
    exec .status s = .next (s.drive Config.fill).takeStatus :=
  congrArg Host.Outcome.next (State.clockByte_takes_command h (b := 0x01) rfl rfl)

/-- Settles O13: the command at its taking, with its counts of places and slots written out; the code of each port state
is then read off. -/
theorem statusReportsTheOccupancies : Obligations.StatusReportsTheOccupancies := by
  intro s h
  rw [exec_status_of_atCommand h, State.takeStatus_drive, State.statusBytes, State.placesInUse_eq_length_filter,
    State.slotsInUse_eq_length_filter]
  cases hport : s.port.state with
  | ready => rfl
  | busy awaited expiry => rfl
  | stalled awaited => rfl

end Sys2Proof.Machine
end

section
/-! What a command is made of: the moves, each a change at one or two blocks together with what the command has checked
before it. Every command is a run of moves, so a law that each move keeps is kept by every step. -/

namespace Sys2Proof.Machine

open Sys2Proof

namespace State

/-- The two states agree on everything that a law of Safety.lean reads. -/
structure Quiet (s t : State) : Prop where
  pending : t.pending = s.pending := by rfl
  posting : t.posting = s.posting := by rfl
  waiting : t.waiting = s.waiting := by rfl
  outTags : t.fabric.outTags = s.fabric.outTags := by rfl
  nextSeq : t.fabric.nextSeq = s.fabric.nextSeq := by rfl
  port : t.port.state = s.port.state := by rfl
  captures : t.captures = s.captures := by rfl
  locks : t.locks = s.locks := by rfl
  progress : t.progress = s.progress := by rfl
  faults : t.faults = s.faults := by rfl

/-- One change that a command can make, with the checks that stand before it. -/
inductive Move : State → State → Prop
  /-- What no law reads: time, pins, tables, pacing, the Management Port, the records of what has been sent. -/
  | quiet {s t : State} (h : s.Quiet t) : Move s t
  /-- A response of the other group (R144). -/
  | respond (s : State) (r : Response) : Move s (s.respond r)
  /-- A RETRY (R144). -/
  | refuse (s : State) (r : Request) (cause : RetryCause) : Move s (s.refuseRetry r cause)
  /-- The reservation of the Favoured List head ends (R150). -/
  | reservation (s : State) : Move s s.reservationExpired
  /-- A fault is handed over (R179, R180). -/
  | fault (s : State) (b : FaultBody) : Move s (s.handOver b)
  /-- The record read out is removed (R181). -/
  | popped (s : State) : Move s { s with faults := s.faults.removeHead }
  /-- Captures are removed; claims stay (R105, R118, R119). -/
  | forget (s : State) (v : Vector Place 8)
      (kept : ∀ k, (v.get k).claim = (s.captures.get k).claim ∧
        ((v.get k).capture = none ∨ (v.get k).capture = (s.captures.get k).capture)) :
      Move s { s with captures := v }
  /-- The retention timer of a capture restarts (R107). -/
  | retain {s : State} {k : Fin 8} {c : Capture} (hold : s.holdsCapture k c) (expiry : Nat) :
      Move s (s.putCapture k { c with expiry := expiry })
  /-- A latch records the tag of the read it answers, as the only capture that does (R112). -/
  | latch {s : State} {k : Fin 8} {c : Capture} {i : Initiator} {t : Tag} {a : Addr} (hold : s.holdsCapture k c)
      (split : c.splitFor i (wordOf a) = true) (fresh : t ∉ s.fabric.outTags.get i) (expiry : Nat) :
      Move s ((s.dropCaptures fun d => d.recordsTag i t).putCapture k
        { c with key := c.key.recordHalf a t, expiry := expiry })
  /-- Sealing events (R32, R34). -/
  | sealing (s : State) (test : PostingEntry → Bool) : Move s (s.sealWhere test)
  /-- A posted write joins the OPEN entry for its line (R27). -/
  | merge (s : State) (r : Request) (a : Addr) (size : Size) (data : List Byte) : Move s (s.mergeWrite r a size data)
  /-- A drain timer has expired (R41). -/
  | overdue (s : State) (seq : Nat) : Move s (s.overdueEntry seq)
  /-- A posted write creates an entry (R28). -/
  | create {s : State} {r : Request} {c : Classification} {a : Addr} {size : Size} {data : List Byte}
      (room : s.posting.length < 16) (alone : s.merges c.cls (lineOf a) = false) : Move s (s.createEntry r c a size data)
  /-- A sequence number is given out to a FENCE that does not wait (R24, R70). -/
  | number (s : State) : Move s s.takeSeq
  /-- A request joins the Wait List (R54, R165). -/
  | enter {s : State} {r : Request} {work : WaitWork} (fresh : r.tag ∉ s.fabric.outTags.get r.initiator)
      (room : (s.fabric.outTags.get r.initiator).length < 4)
      (unrecorded : ∀ k c, s.holdsCapture k c → c.recordsTag r.initiator r.tag = false)
      (unclaimed : ∀ a, work = .access a → a.claimed = false) : Move s (s.enterWait r work)
  /-- A lock ends (R136). -/
  | unlock (s : State) (k : Fin 2) : Move s { s with locks := s.locks.put k .free }
  /-- A broken-lock marker is cleared (R139). -/
  | unmark (s : State) (i : Initiator) : Move s { s with locks := s.locks.mark i none }
  /-- A lock is formed for an initiator without one, on a line without one (R127, R128). -/
  | lock {s : State} {k : Fin 2} {i : Initiator} {line : Addr} {n : Nat} (none : s.OwnsNone i) (open' : ¬ s.ShutOut i line) :
      Move s { s with locks := (s.locks.put k (.pending i line n)).mark i .none }
  /-- The closing write of a HELD lock (R134). -/
  | close {s : State} {k : Fin 2} {i : Initiator} {line : Addr} {e n : Nat} (held : s.locks.slots.get k = .held i line e) :
      Move s { s with locks := s.locks.put k (.closing i line n) }
  /-- A HELD lock is broken by its timer (R137). -/
  | broken {s : State} {k : Fin 2} {i : Initiator} {line : Addr} {e : Nat} (held : s.locks.slots.get k = .held i line e) :
      Move s { s with locks := (s.locks.put k .free).mark i (some line) }
  /-- A link reset (R171). -/
  | linkReset (s : State) : Move s ((s.dropLink.orphanAccess Requester.isRequest).clearTraffic)
  /-- A soft reset (R198). -/
  | softReset (s : State) : Move s ((s.discardPosted.abandonRequests.orphanAccess fun _ => true).clearTraffic)
  /-- A power-on reset (R201). -/
  | powerOn (s : State) : Move s s.powerOn
  /-- The awaited access ends, or times out, and its outcome is delivered (R82, R83). -/
  | outcome {s : State} {aw : Awaited} {e : Nat} {p : PortState} (busy : s.port.state = .busy aw e)
      (ended : ∀ aw e, p ≠ .busy aw e) (o : PortOutcome) : Move s ((s.setPort p).deliver aw.requester o)
  /-- A stall ends (R85, R89). -/
  | unstall {s : State} {aw : Awaited} (stalled : s.port.state = .stalled aw) : Move s (s.setPort .ready)
  /-- The Issue Arbiter decides (R72). -/
  | decide (s : State) : Move s s.arbitrate

/-- A state is reached by moves. -/
abbrev Run : State → State → Prop := Relation.ReflTransGen Move

variable {s t u : State}

theorem Run.of (h : s.Move t) : s.Run t := .single h

theorem Run.trans (h : s.Run t) (hu : t.Run u) : s.Run u := Relation.ReflTransGen.trans h hu

theorem Run.tail (h : s.Run t) (hu : t.Move u) : s.Run u := Relation.ReflTransGen.tail h hu

theorem Run.quiet (h : s.Quiet t) : s.Run t := .of (.quiet h)

theorem Run.respond (s : State) (r : Response) : s.Run (s.respond r) := .of (.respond s r)

theorem Run.refuse (s : State) (r : Request) (cause : RetryCause) : s.Run (s.refuseRetry r cause) :=
  .of (.refuse s r cause)

/-- The decision of the Issue Arbiter, with the kept pacing expiries computed anew, which no law reads. -/
theorem Run.judge (s : State) : s.Run s.judge :=
  (Run.of (.decide s)).tail (.quiet {})

/-- A change that no law reads, with the decision at its end. -/
theorem Run.quiet_judge (h : s.Quiet t) : s.Run t.judge := (Run.quiet h).trans (.judge t)

/-! ### The capture lookup -/

theorem Run.dropCaptures (s : State) (test : Capture → Bool) : s.Run (s.dropCaptures test) := by
  refine .of (.forget s _ fun k => ?_)
  rw [get_vmap, Place.claim_drop, Place.drop_eq]
  refine ⟨rfl, ?_⟩
  cases hc : (s.captures.get k).capture with
  | none => exact .inr hc
  | some c => dsimp only; split <;> simp [hc]

/-- The request may enter the Wait List: its tag is not outstanding, and no capture records it (R106, R164). -/
structure Admits (s : State) (r : Request) : Prop where
  fresh : r.tag ∉ s.fabric.outTags.get r.initiator
  unrecorded : ∀ k c, s.holdsCapture k c → c.recordsTag r.initiator r.tag = false

/-- A capture that is left after a removal has been there before it, and does not satisfy the test. -/
theorem holdsCapture_dropCaptures {test : Capture → Bool} {k : Fin 8} {c : Capture} :
    (s.dropCaptures test).holdsCapture k c ↔ s.holdsCapture k c ∧ test c = false := by
  simp only [holdsCapture, dropCaptures_captures, get_vmap, Place.drop_eq]
  cases hc : (s.captures.get k).capture with
  | none => simp [hc]
  | some d =>
    dsimp only
    split
    case isTrue hd =>
      simp only [reduceCtorEq, Option.some.injEq, false_iff, not_and, Bool.not_eq_false]
      rintro rfl
      exact hd
    case isFalse hd =>
      simp only [hc, Option.some.injEq, iff_self_and]
      rintro rfl
      simpa using hd

theorem Admits.dropCaptures {r : Request} (h : s.Admits r) (test : Capture → Bool) : (s.dropCaptures test).Admits r :=
  ⟨h.fresh, fun k c hc => h.unrecorded k c (holdsCapture_dropCaptures.1 hc).1⟩

theorem Admits.withLocks {r : Request} (h : s.Admits r) (locks : LockUnit) : { s with locks := locks }.Admits r :=
  ⟨h.fresh, h.unrecorded⟩

/-- The state after a lookup that answers nothing: captures have been removed, among them every one that records the
request's tag (R106, step 3). -/
def Forgot (s : State) (r : Request) (t : State) : Prop :=
  ∃ test, t = s.dropCaptures test ∧ ∀ c, c.recordsTag r.initiator r.tag = true → test c = true

theorem forgot_reuseTag (s : State) (r : Request) : s.Forgot r (s.reuseTag r) := ⟨_, rfl, fun _ hc => hc⟩

/-- What step 2 of the lookup can do: forget, or answer from a latch (R106, R112). -/
theorem latchStep_cases (s : State) (r : Request) (a : Addr) :
    (∃ t, s.latchStep r a = (false, t) ∧ s.Forgot r t) ∨
      ∃ k c, s.holdsCapture k c ∧ c.splitFor r.initiator (wordOf a) = true ∧
        s.latchStep r a = (true, s.answerLatch r k c a) := by
  unfold latchStep
  split
  case h_1 => exact .inl ⟨_, rfl, forgot_reuseTag s r⟩
  case h_2 k c hfind =>
    obtain ⟨hold, hsplit⟩ := s.findCapture_some hfind
    split
    · refine .inl ⟨_, rfl, _, dropCaptures_dropCaptures .., fun d hd => ?_⟩
      simp [hd]
    · exact .inr ⟨k, c, hold, hsplit, rfl⟩

/-- What the lookup can do: forget, answer an exact re-issue, or answer from a latch (R106). -/
theorem lookup_cases (s : State) (r : Request) :
    (∃ t, s.lookup r = (false, t) ∧ s.Forgot r t) ∨
      (∃ k c a, s.holdsCapture k c ∧ s.lookup r = (true, s.answerReplay r k c a)) ∨
      ∃ k c a, s.holdsCapture k c ∧ c.splitFor r.initiator (wordOf a) = true ∧
        s.lookup r = (true, s.answerLatch r k c a) := by
  have forgets : ∃ t, (false, s.reuseTag r) = (false, t) ∧ s.Forgot r t := ⟨_, rfl, forgot_reuseTag s r⟩
  unfold lookup
  split
  case h_1 a size hint _ =>
    split
    case h_1 k c hfind => exact .inr (.inl ⟨k, c, a, (s.findCapture_some hfind).1, rfl⟩)
    case h_2 =>
      split
      · exact (s.latchStep_cases r a).imp id fun ⟨k, c, hlatch⟩ => .inr ⟨k, c, a, hlatch⟩
      · exact .inl forgets
  all_goals exact .inl forgets

theorem Forgot.run {r : Request} (h : s.Forgot r t) : s.Run t := by
  obtain ⟨test, rfl, -⟩ := h
  exact .dropCaptures s test

/-- After a lookup that answers nothing the request's tag is recorded nowhere. -/
theorem Forgot.admits {r : Request} (h : s.Forgot r t) (hfresh : r.tag ∉ s.fabric.outTags.get r.initiator) :
    t.Admits r := by
  obtain ⟨test, rfl, htest⟩ := h
  refine ⟨hfresh, fun k c hc => Bool.eq_false_iff.2 fun hrecords => ?_⟩
  exact Bool.eq_false_iff.1 (holdsCapture_dropCaptures.1 hc).2 (htest c hrecords)

/-! ### The kind steps -/

section
variable {r : Request} {c : Classification} {a : Addr} {size : Size} {data : List Byte}

theorem Run.dropOwnLatches (s : State) (i : Initiator) (a : Addr) (size : Size) : s.Run (s.dropOwnLatches i a size) :=
  .dropCaptures s _

theorem Run.dropLatches (s : State) (a : Addr) (size : Size) : s.Run (s.dropLatches a size) := .dropCaptures s _

/-- The taking of a request that makes an access (R32, R54). -/
theorem Run.takeAccess (h : s.Admits r) (hroom : (s.fabric.outTags.get r.initiator).length < 4) (kind : AccessKind) :
    s.Run (s.takeAccess r kind c a size data) :=
  (Run.of (.sealing s _)).tail (.enter h.fresh hroom h.unrecorded fun _ hwork => by cases hwork; rfl)

theorem Run.kindRead (h : s.Admits r) (hroom : (s.fabric.outTags.get r.initiator).length < 4) :
    s.Run (s.kindRead r c a size) := by
  have hdrop : ∃ t, (if size = .b8 ∨ size = .b32 then s.dropOwnLatches r.initiator a size else s) = t ∧ s.Run t ∧
      t.Admits r ∧ (t.fabric.outTags.get r.initiator).length < 4 := by
    split
    · exact ⟨_, rfl, .dropOwnLatches .., h.dropCaptures _, hroom⟩
    · exact ⟨_, rfl, .refl, h, hroom⟩
  obtain ⟨t, ht, hrun, hadmits, hroom⟩ := hdrop
  unfold State.kindRead
  dsimp only
  rw [ht]
  split
  · exact hrun.trans (.respond _ _)
  · exact hrun.trans (.takeAccess hadmits hroom _)

theorem Run.kindPosted (s : State) (r : Request) (c : Classification) (a : Addr) (size : Size) (data : List Byte) :
    s.Run (s.kindPosted r c a size data) := by
  unfold State.kindPosted
  split
  · exact ((Run.dropLatches s a size).tail (.merge ..)).trans (.respond _ _)
  next hmerges =>
    split
    · exact .refuse ..
    next hroom =>
      split
      · exact .refuse ..
      · have hcreate : Move (s.dropLatches a size) ((s.dropLatches a size).createEntry r c a size data) :=
          .create (not_le.1 hroom) (Bool.eq_false_iff.2 hmerges)
        exact ((Run.dropLatches s a size).tail hcreate).trans (.respond _ _)

theorem Run.kindWrite (h : s.Admits r)
    (hroom : c.cls = .device → (s.fabric.outTags.get r.initiator).length < 4) :
    s.Run (s.kindWrite r c a size data) := by
  unfold State.kindWrite
  split
  · exact .respond _ _
  · split
    next hdevice => exact (Run.dropLatches s a size).trans (.takeAccess (h.dropCaptures _) (hroom hdevice) _)
    next => exact .kindPosted ..

theorem Run.kindLockedRead (h : s.Admits r) (hroom : (s.fabric.outTags.get r.initiator).length < 4)
    (hopen : ¬ s.ShutOut r.initiator (lineOf a)) : s.Run (s.kindLockedRead r c a size) := by
  unfold State.kindLockedRead
  split
  · exact .respond _ _
  next howned =>
    have hnone : s.OwnsNone r.initiator := (s.ownedBy_eq_none_iff _).1 (by simpa using howned)
    split
    · exact .respond _ _
    · split
      · exact .refuse ..
      next k _ =>
        split
        · exact .refuse ..
        · have hlock := (Run.dropOwnLatches s r.initiator a size).tail
            (.lock (k := k) (n := s.fabric.nextSeq) hnone hopen)
          exact hlock.trans (.takeAccess ((h.dropCaptures _).withLocks _) hroom _)

theorem Run.answerLockLost (s : State) (r : Request) : s.Run (s.answerLockLost r) :=
  (Run.of (.unmark s r.initiator)).trans (.respond _ _)

/-- The slot found for an initiator is its own (R123). -/
theorem owner_of_ownedBy {i : Initiator} {k : Fin 2} (h : s.locks.ownedBy i = some k) :
    (s.locks.slots.get k).owner = some i := by
  simpa using vfind_some h

theorem held_of_ownedBy {i o : Initiator} {k : Fin 2} {line : Addr} {e : Nat} (h : s.locks.ownedBy i = some k)
    (hslot : s.locks.slots.get k = .held o line e) : s.locks.slots.get k = .held i line e := by
  have howner := owner_of_ownedBy h
  rw [hslot] at howner ⊢
  cases howner
  rfl

theorem Run.kindLockedWrite (h : s.Admits r) (hroom : (s.fabric.outTags.get r.initiator).length < 4) :
    s.Run (s.kindLockedWrite r c a size data) := by
  unfold State.kindLockedWrite
  split
  next k howned =>
    split
    next o line e hslot =>
      split
      next hline =>
        subst hline
        have hclose := (Run.dropLatches s a size).tail
          (.close (n := s.fabric.nextSeq) (held_of_ownedBy howned hslot))
        exact hclose.trans (.takeAccess ((h.dropCaptures _).withLocks _) hroom _)
      next => exact .respond _ _
    all_goals exact .respond _ _
  next =>
    split
    · exact .answerLockLost s r
    · exact .respond _ _

theorem Run.kindLockDrop (s : State) (r : Request) : s.Run (s.kindLockDrop r) := by
  unfold State.kindLockDrop
  split
  next k _ =>
    split
    · exact (Run.of (.unlock s k)).trans (.respond _ _)
    all_goals exact .respond _ _
  next =>
    split
    · exact .answerLockLost s r
    · exact .respond _ _

theorem Run.kindFence (h : s.Admits r) (hroom : (s.fabric.outTags.get r.initiator).length < 4) :
    s.Run (s.kindFence r) := by
  have hseal := Run.of (.sealing s fun e => e.contributors.contains r.initiator)
  unfold State.kindFence
  dsimp only
  split
  · exact (hseal.tail (.number _)).trans (.respond _ _)
  · exact hseal.tail (.enter h.fresh hroom h.unrecorded fun _ hwork => by cases hwork)

/-! ### The acceptance order -/

/-- Steps 5 to 7 refuse, or leave the state to the kind step with what they have checked (R164). -/
theorem Run.preCheck {nonPosted : Bool}
    (h : c.cls ≠ .blocked → (nonPosted = true → (s.fabric.outTags.get r.initiator).length < 4) →
      ¬ s.ShutOut r.initiator (lineOf a) → s.Run t) : s.Run ((s.preCheck r c a nonPosted).getD t) := by
  unfold State.preCheck
  split
  · exact .respond _ _
  next hclass =>
    split
    · exact .respond _ _
    next hlimit =>
      split
      · exact .refuse ..
      next hopen =>
        refine h hclass (fun hnonPosted => ?_) (mt (s.shutOut_iff _ _).2 hopen)
        simp only [hnonPosted, Bool.true_and, decide_eq_true_eq] at hlimit
        exact not_le.1 hlimit

theorem Run.accept (h : s.Admits r) : s.Run (s.accept r) := by
  unfold State.accept
  split
  case h_1 => exact .respond _ _
  case h_2 => exact .kindLockDrop s r
  case h_3 =>
    split
    · exact .respond _ _
    next hroom => exact .kindFence h (not_le.1 hroom)
  case h_4 => exact .preCheck fun _ hroom _ => .kindRead h (hroom rfl)
  case h_5 => exact .preCheck fun _ hroom _ => .kindWrite h fun hdevice => hroom (beq_iff_eq.2 hdevice)
  case h_6 => exact .preCheck fun _ hroom hopen => .kindLockedRead h (hroom rfl) hopen
  case h_7 => exact .preCheck fun _ hroom _ => .kindLockedWrite h (hroom rfl)

theorem Run.process (hfresh : r.tag ∉ s.fabric.outTags.get r.initiator) : s.Run (s.process r) := by
  have harrived : s.Run (if (s.lookup r).1 then (s.lookup r).2 else (s.lookup r).2.accept r) := by
    rcases s.lookup_cases r with ⟨t, hlookup, hforgot⟩ | ⟨k, c, a, hold, hlookup⟩ | ⟨k, c, a, hold, hsplit, hlookup⟩
    · rw [hlookup]
      exact hforgot.run.trans (Run.accept (hforgot.admits hfresh))
    · rw [hlookup]
      exact (Run.of (.retain hold _)).trans (Run.respond _ _)
    · rw [hlookup]
      exact (Run.of (.latch hold hsplit hfresh _)).trans (Run.respond _ _)
  unfold State.process
  dsimp only
  generalize (if (s.lookup r).1 then _ else _) = arrived at harrived ⊢
  split
  · exact harrived.trans (.judge _)
  · exact harrived

theorem Run.arriveMalformed (s : State) (i : Initiator) (tag : Tag) : s.Run (s.arriveMalformed i tag) := by
  unfold State.arriveMalformed
  split
  · exact .refl
  · exact .respond _ _

theorem Run.arrive (s : State) (r : Request) : s.Run (s.arrive r) := by
  unfold State.arrive
  split
  · exact .arriveMalformed s _ _
  · split
    · exact .refl
    · split
      · exact .respond _ _
      next hfresh => exact .process hfresh

theorem Run.arriveFrame (s : State) (header : BitVec 64) (data : List Byte) : s.Run (s.arriveFrame header data) := by
  unfold State.arriveFrame
  split
  · exact .arrive s _
  · exact .arriveMalformed s _ _

end

/-! ### Resets, completions and expiries -/

theorem Run.linkReset (s : State) : s.Run s.linkReset := by
  unfold State.linkReset
  split
  · exact .refl
  · exact (Run.of (.linkReset s)).trans (.judge _)

theorem Run.linkUp (s : State) : s.Run s.linkUp := by
  unfold State.linkUp
  split
  · exact .refl
  · split
    · exact .refl
    · exact .quiet_judge {}

theorem Run.softReset (s : State) : s.Run s.softReset :=
  (Run.of (.softReset s)).trans (.quiet_judge {})

theorem Run.recordPace (s : State) (r : RegionIndex) (d : Direction) : s.Run (s.recordPace r d) :=
  .quiet {}

theorem Run.completion (s : State) (number : AccessNumber) (ok : Bool) (data : List Byte) :
    s.Run (s.completion number ok data) := by
  have late : s.Run (s.handOver (.lateCompletion number)) := .of (.fault s _)
  unfold State.completion
  split
  · exact late
  next aw e hbusy =>
    split
    · have hended := Move.outcome (s := s.recordPace aw.region aw.operation) (p := .ready) hbusy
        (fun _ _ => PortState.noConfusion) (s.completionOutcome aw ok data)
      exact ((Run.recordPace s aw.region aw.operation).tail hended).trans (.judge _)
    · exact late
  next aw hstalled =>
    split
    · have hfault := (Run.recordPace s aw.region aw.operation).tail (.fault _ (.lateCompletion number))
      exact (hfault.tail (.unstall hstalled)).trans (.judge _)
    · exact late

theorem Run.memoryExpired (s : State) : s.Run s.memoryExpired := by
  unfold State.memoryExpired
  split
  next aw e hbusy =>
    have hstall := Run.of (.outcome (p := .stalled { aw with requester := .none }) hbusy
      (fun _ _ => PortState.noConfusion) .timeout)
    exact hstall.trans (.judge _)
  all_goals exact .refl

theorem Run.drainExpired (s : State) (seq : Nat) : s.Run (s.drainExpired seq) := by
  unfold State.drainExpired
  split
  · exact (Run.of (.overdue s seq)).trans (.judge _)
  · exact .of (.overdue s seq)

theorem Run.clearCapture (s : State) (k : Fin 8) : s.Run (s.clearCapture k) :=
  .of (.forget s _ fun j => by rw [get_vset]; split <;> simp [*])

theorem Run.retentionExpired (s : State) (k : Fin 8) : s.Run (s.retentionExpired k) := by
  unfold State.retentionExpired
  split
  · exact .clearCapture s k
  · exact (Run.clearCapture s k).trans (.judge _)

theorem Run.lockExpired (s : State) (k : Fin 2) : s.Run (s.lockExpired k) := by
  unfold State.lockExpired
  split
  next hheld => exact (Run.of (.broken hheld)).tail (.fault _ _)
  all_goals exact .refl

theorem Run.pacingExpired (s : State) (r : RegionIndex) : s.Run (s.pacingExpired r) :=
  .quiet_judge {}

theorem Run.elapse (s : State) (n : Nat) : s.Run (s.elapse n) :=
  .quiet {}

theorem Run.reach {e : Nat} (h : s.reach e = some t) : s.Run t := by
  unfold State.reach at h
  split at h
  · cases h
  · split at h
    · cases h; exact .refl
    · split at h
      · cases h; exact .elapse s _
      · cases h

theorem Run.expire (s : State) (expiry : Option Nat) {event : State → State} (hevent : ∀ t : State, t.Run (event t)) :
    s.Run (s.expire expiry event) := by
  unfold State.expire
  split
  · exact .refl
  · split
    next hreach => exact (Run.reach hreach).trans (hevent _)
    next => exact .refl

/-! ### The bytes of a Management Port frame -/

/-- What changes the Management Port alone, or a Region Table, is read by no law. -/
theorem Run.answerFrame (s : State) (c : Option Command) (result : ResultCode) (bytes : List Byte) :
    s.Run (s.answerFrame c result bytes) := .quiet {}

theorem Run.setPhase (s : State) (p : FramePhase) : s.Run (s.setPhase p) :=
  .quiet {}

theorem Run.drive (s : State) (b : Byte) : s.Run (s.drive b) :=
  .quiet {}

theorem Run.takeReadRegion (s : State) (args : List Byte) : s.Run (s.takeReadRegion args) := by
  unfold State.takeReadRegion
  dsimp only
  split
  · exact .answerFrame ..
  · split <;> exact .answerFrame ..

theorem Run.takeWriteRegion (s : State) (args : List Byte) : s.Run (s.takeWriteRegion args) := by
  unfold State.takeWriteRegion
  dsimp only
  split
  · split
    · exact .answerFrame ..
    · exact .quiet {}
  · split
    · split
      · exact .answerFrame ..
      · exact .quiet {}
    · exact .answerFrame ..

theorem Run.takeReadProfile (s : State) (args : List Byte) : s.Run (s.takeReadProfile args) := by
  unfold State.takeReadProfile
  split <;> exact .answerFrame ..

theorem Run.takeReadLimit (s : State) (args : List Byte) : s.Run (s.takeReadLimit args) := by
  unfold State.takeReadLimit
  split <;> exact .answerFrame ..

theorem Run.takeWriteLimit (s : State) (args : List Byte) : s.Run (s.takeWriteLimit args) := by
  unfold State.takeWriteLimit
  split
  · exact .answerFrame ..
  · dsimp only
    split
    · exact .quiet {}
    · exact .answerFrame ..

theorem Run.takePopFault (s : State) : s.Run s.takePopFault := by
  unfold State.takePopFault
  split <;> exact .answerFrame ..

theorem Run.install (s : State) : s.Run s.install :=
  (Run.of (.sealing s fun _ => true)).trans (.quiet_judge {})

theorem Run.takeCommit (s : State) : s.Run s.takeCommit := by
  unfold State.takeCommit
  split
  · exact .answerFrame ..
  · exact (Run.answerFrame ..).trans (.install _)

theorem Run.takeWriteProfile (s : State) (args : List Byte) : s.Run (s.takeWriteProfile args) := by
  unfold State.takeWriteProfile
  split
  · exact .answerFrame ..
  · split
    · exact .answerFrame ..
    · exact .quiet_judge {}

theorem Run.takeAbandon (s : State) : s.Run s.takeAbandon := by
  unfold State.takeAbandon
  split
  next hstalled =>
    unfold isStalled at hstalled
    split at hstalled
    next aw hport =>
      exact ((Run.answerFrame s (some .abandon) .ok []).tail (.unstall (aw := aw) hport)).trans (.judge _)
    all_goals cases hstalled
  next => exact .answerFrame ..

theorem Run.takeCommand (s : State) (c : Command) (args : List Byte) : s.Run (s.takeCommand c args) := by
  cases c with
  | status => exact .answerFrame ..
  | readRegion => exact .takeReadRegion s args
  | writeRegion => exact .takeWriteRegion s args
  | copyActive => exact .quiet {}
  | commit => exact .takeCommit s
  | readProfile => exact .takeReadProfile s args
  | writeProfile => exact .takeWriteProfile s args
  | readLimit => exact .takeReadLimit s args
  | writeLimit => exact .takeWriteLimit s args
  | popFault => exact .takePopFault s
  | abandon => exact .takeAbandon s
  | softReset => exact (Run.answerFrame ..).trans (.softReset _)

theorem Run.nameCommand (s : State) (b : Byte) : s.Run (s.nameCommand b) := by
  unfold State.nameCommand
  split
  · exact .answerFrame ..
  · split
    · exact .takeCommand s _ _
    · exact .setPhase ..

theorem Run.addArgument (s : State) (c : Command) (received : List Byte) (b : Byte) :
    s.Run (s.addArgument c received b) := by
  unfold State.addArgument
  split
  · exact .setPhase ..
  · exact .takeCommand s _ _

theorem Run.clockByte (s : State) (b : Byte) : s.Run (s.clockByte b) := by
  unfold State.clockByte
  split
  · exact .refl
  · split
    case h_1 | h_2 => exact .drive s _
    case h_3 => exact (Run.drive s _).trans (.nameCommand _ b)
    case h_4 c received _ => exact (Run.drive s _).trans (.addArgument _ c received b)
    case h_5 => exact (Run.drive s _).trans (.setPhase _ _)
    case h_6 => exact .drive s _

theorem Run.startFrame (s : State) : s.Run s.startFrame := by
  unfold State.startFrame
  split
  · exact .refl
  · exact .quiet {}

theorem Run.endFrame (s : State) : s.Run s.endFrame := by
  unfold State.endFrame
  split
  · exact .refl
  · split
    · exact (Run.of (.popped s)).trans (.quiet {})
    · exact .quiet {}

end State

open State

/-! ### Every command, every step -/

/-- The command's next state is reached by moves. -/
def Moves (c : Instr) (s : State) : Prop := ∃ t, exec c s = .next t ∧ s.Run t

theorem moves_frameDiscardedInReset (header : BitVec 64) (data : List Byte) (s : State) :
    Moves (.frameDiscardedInReset header data) s := by
  change ∃ t, execFrameDiscardedInReset header data s = .next t ∧ s.Run t
  unfold execFrameDiscardedInReset
  split
  · exact ⟨s, rfl, .refl⟩
  · exact ⟨_, rfl, .arriveFrame s header data⟩

theorem moves_completion (head : Byte) (data : List Byte) (s : State) : Moves (.completion head data) s := by
  change ∃ t, execCompletion head data s = .next t ∧ s.Run t
  unfold execCompletion
  split
  · exact ⟨s, rfl, .refl⟩
  · exact ⟨_, rfl, .completion s _ _ _⟩

theorem moves_powerOnReset (s : State) : Moves .powerOnReset s := by
  refine ⟨_, rfl, ?_⟩
  split
  · exact .of (.powerOn s)
  · exact .refl

theorem moves_powerOnResetEnd (mcV : Bool) (s : State) : Moves (.powerOnResetEnd mcV) s := by
  refine ⟨_, rfl, ?_⟩
  split
  · exact .quiet {}
  · exact .refl

/-- Every command has a next state, reached by moves: the one inversion of exec that the laws are proved from. -/
theorem exec_moves (c : Instr) (s : State) : Moves c s := by
  cases c with
  | read | write | lockedRead | lockedWrite | lockDrop | fence | discard => exact ⟨_, rfl, .arrive s _⟩
  | malformedRequest header data => exact ⟨_, rfl, .arriveFrame s header data⟩
  | frameDiscardedInReset header data => exact moves_frameDiscardedInReset header data s
  | linkReset => exact ⟨_, rfl, .linkReset s⟩
  | linkUp => exact ⟨_, rfl, .linkUp s⟩
  | powerOnReset => exact moves_powerOnReset s
  | powerOnResetEnd mcV => exact moves_powerOnResetEnd mcV s
  | completion head data => exact moves_completion head data s
  | memoryTimerExpiry => exact ⟨_, rfl, .expire s _ .memoryExpired⟩
  | mergeTimerExpiry => exact ⟨_, rfl, .expire s _ fun t => (Run.of (.sealing t _)).trans (.judge _)⟩
  | drainTimerExpiry entry => exact ⟨_, rfl, .expire s _ fun t => .drainExpired t entry⟩
  | pacingExpiry region => exact ⟨_, rfl, .expire s _ fun t => .pacingExpired t region⟩
  | retentionTimerExpiry place => exact ⟨_, rfl, .expire s _ fun t => .retentionExpired t place⟩
  | lockTimerExpiry slot => exact ⟨_, rfl, .expire s _ fun t => .lockExpired t slot⟩
  | reservationTimerExpiry => exact ⟨_, rfl, .expire s _ fun t => .of (.reservation t)⟩
  | frameStart => exact ⟨_, rfl, .startFrame s⟩
  | frameEnd => exact ⟨_, rfl, .endFrame s⟩
  | mcVFalling => exact ⟨_, rfl, .quiet {}⟩
  | badCommand | status | readRegion | writeRegion | copyActive | commit | readProfile | writeProfile | readLimit
  | writeLimit | popFault | abandon | softReset | byteReceived | bytePositionClocked =>
    exact ⟨_, rfl, .clockByte s _⟩

/-- A law that every move keeps, and that the queue of commands and the free counter have no part in, is kept by every
step. -/
theorem step_keeps {P : State → Prop} (hqueue : ∀ s l n, P s → P { s with pending := l, freeCount := n })
    (hmove : ∀ {s t}, s.Move t → P s → P t) {s t : State} (hs : P s) (h : step s = .next t) : P t := by
  have hrun : ∀ {u v}, u.Run v → P u → P v := fun h hu => by
    induction h with
    | refl => exact hu
    | tail _ hlast ih => exact hmove hlast ih
  unfold step at h
  split at h
  next c rest _ =>
    obtain ⟨u, hexec, hmoves⟩ := exec_moves c { s with pending := rest }
    obtain rfl : u = t := Host.Outcome.next.inj (hexec.symm.trans h)
    exact hrun hmoves (hqueue s rest s.freeCount hs)
  next =>
    obtain rfl : s.idle = t := Host.Outcome.next.inj h
    unfold idle
    split
    · exact hs
    · split
      · exact hqueue _ _ _ hs
      · exact hrun (.elapse s 1) hs

end Sys2Proof.Machine
end

section
/-! The laws of one block each, move by move: the queue of commands, the Fault Queue (R177, R179, R183), the Favoured
List (R144 to R150) and the Lock Unit (R123, R124). -/

namespace Sys2Proof.Machine

open Sys2Proof

namespace State

variable {s t : State}

/-! ### The queue of commands -/

@[simp] theorem discardPosted_pending (s : State) : s.discardPosted.pending = s.pending := by
  unfold discardPosted; split <;> rfl

@[simp] theorem abandonRequests_pending (s : State) : s.abandonRequests.pending = s.pending := by
  simp [abandonRequests]

@[simp] theorem reservationExpired_pending (s : State) : s.reservationExpired.pending = s.pending := by
  unfold reservationExpired; split <;> rfl

theorem Move.pending (h : s.Move t) : t.pending = s.pending := by
  cases h with
  | quiet hquiet => exact hquiet.pending
  | reservation => exact reservationExpired_pending s
  | linkReset | softReset | outcome | decide => simp
  | respond | refuse | fault | popped | forget | retain | latch | sealing | merge | overdue | create | number | enter
  | unlock | unmark | lock | close | broken | powerOn | unstall => rfl

theorem Run.pending (h : s.Run t) : t.pending = s.pending := by
  induction h with
  | refl => rfl
  | tail _ hlast ih => exact hlast.pending.trans ih

/-! ### The Fault Queue -/

theorem faults_handOverAny_sound (h : s.faults.Sound) (b : Option FaultBody) : (s.handOverAny b).faults.Sound := by
  cases b with
  | none => exact h
  | some b => exact h.handOver b

theorem faults_deliver_sound (h : s.faults.Sound) (q : Requester) (o : PortOutcome) : (s.deliver q o).faults.Sound := by
  cases q with
  | head =>
    unfold deliver headOutcome
    dsimp only
    split
    · exact h
    · rw [depart_faults]
      exact faults_handOverAny_sound (by exact h) _
  | request seq => simpa [deliver] using h
  | orphan | none => exact h

theorem faults_discardPosted_sound (h : s.faults.Sound) : s.discardPosted.faults.Sound := by
  unfold discardPosted
  split
  · exact h
  · exact h.handOver _

@[simp] theorem abandonRequests_faults (s : State) : s.abandonRequests.faults = s.faults := by simp [abandonRequests]

@[simp] theorem reservationExpired_faults (s : State) : s.reservationExpired.faults = s.faults := by
  unfold reservationExpired; split <;> rfl

/-- An empty queue, as a power-on reset leaves it (R184). -/
theorem faults_reset_sound : State.reset.faults.Sound :=
  ⟨Nat.zero_le _, fun _ h => absurd h (Nat.not_lt_zero _), rfl⟩

theorem Move.faults (h : s.Move t) (hs : s.faults.Sound) : t.faults.Sound := by
  cases h with
  | quiet hquiet => rwa [hquiet.faults]
  | fault b => exact hs.handOver b
  | popped => exact hs.removeHead
  | powerOn => exact faults_reset_sound
  | outcome _ _ o => exact faults_deliver_sound (by exact hs) _ o
  | softReset => simpa using faults_discardPosted_sound hs
  | reservation => rwa [reservationExpired_faults]
  | linkReset | decide => simpa using hs
  | respond | refuse | forget | retain | latch | sealing | merge | overdue | create | number | enter | unlock | unmark
  | lock | close | broken | unstall => exact hs

/-! ### The Favoured List -/

/-- Responses that leave one after another each keep the law (R144). -/
theorem progress_foldl_other_sound (rs : List Response) (expiry : Nat) {p : ProgressMonitor} (h : p.Sound) :
    (rs.foldl (fun q r => q.other r.initiator expiry) p).Sound := by
  induction rs generalizing p with
  | nil => exact h
  | cons r rest ih => exact ih (h.other r.initiator expiry)

theorem progress_depart_sound (h : s.progress.Sound) (seq : Nat) (answers : List Response) :
    (s.depart seq answers).progress.Sound := by
  rw [depart, respondAll_eq]
  exact progress_foldl_other_sound _ _ (by simpa using h)

theorem progress_deliver_sound (h : s.progress.Sound) (q : Requester) (o : PortOutcome) :
    (s.deliver q o).progress.Sound := by
  cases q with
  | head =>
    unfold deliver headOutcome
    dsimp only
    split
    · exact h
    · exact progress_depart_sound (by simpa using h) _ _
  | request seq =>
    unfold deliver requestOutcome
    dsimp only
    split
    · exact h
    · split
      · exact h
      · refine progress_depart_sound ?_ _ _
        simp only [removeRequests_progress, clearMarks_progress]
        split <;> simpa using h
  | orphan | none => exact h

/-- A monitor with nobody favoured (R156, R157, R158). -/
theorem progress_clear_sound : ProgressMonitor.clear.Sound :=
  ⟨List.nodup_nil, by simp [ProgressMonitor.clear], fun _ => rfl⟩

theorem progress_reservationExpired_sound (h : s.progress.Sound) : s.reservationExpired.progress.Sound := by
  unfold reservationExpired
  split
  · exact h
  next i _ _ =>
    have hcounts : { s.progress with counts := vset s.progress.counts i 0 }.Sound := ⟨h.nodup, h.timer, h.wanted⟩
    exact hcounts.dropHead _

theorem Move.progress (h : s.Move t) (hs : s.progress.Sound) : t.progress.Sound := by
  cases h with
  | quiet hquiet => rwa [hquiet.progress]
  | respond r => exact hs.other _ _
  | refuse r cause => exact hs.retry _ _ _ _
  | reservation => exact progress_reservationExpired_sound hs
  | linkReset | softReset | powerOn => exact progress_clear_sound
  | outcome _ _ o => exact progress_deliver_sound (by exact hs) _ o
  | decide => rwa [arbitrate_progress]
  | fault | popped | forget | retain | latch | sealing | merge | overdue | create | number | enter | unlock | unmark | lock
  | close | broken | unstall => exact hs

/-! ### The Lock Unit -/

/-- A lock formed for an initiator without one, on a line without one, keeps the law (R123, R124, R128). -/
theorem locks_lock_sound {k : Fin 2} {i : Initiator} {line : Addr} {n : Nat} (h : s.locks.Sound) (hnone : s.OwnsNone i)
    (hopen : ¬ s.ShutOut i line) : ((s.locks.put k (.pending i line n)).mark i none).Sound := by
  have hline : ∀ j, (s.locks.slots.get j).line ≠ some line := fun j hj => hopen ⟨j, hj, hnone j⟩
  have hslot : ∀ j, (vset s.locks.slots k (.pending i line n)).get j =
      if j = k then .pending i line n else s.locks.slots.get j := fun j => get_vset _ _ j _
  refine ⟨fun j l o hj hl => ?_, fun j l a hj hl => ?_, fun j o hj => ?_⟩
  · simp only [LockUnit.mark, LockUnit.put, hslot] at hj hl
    split at hj <;> split at hl
    · exact .trans ‹j = k› ‹l = k›.symm
    · cases hj; exact absurd hl (hnone l)
    · cases hl; exact absurd hj (hnone j)
    · exact h.owners j l o hj hl
  · simp only [LockUnit.mark, LockUnit.put, hslot] at hj hl
    split at hj <;> split at hl
    · exact .trans ‹j = k› ‹l = k›.symm
    · cases hj; exact absurd hl (hline l)
    · cases hl; exact absurd hj (hline j)
    · exact h.lines j l a hj hl
  · simp only [LockUnit.mark, LockUnit.put, hslot, get_vset] at hj ⊢
    split
    · rfl
    next hne =>
      split at hj
      · exact absurd (Option.some.inj hj).symm hne
      · exact h.markers j o hj

/-- A lock broken by its timer leaves its owner the marker and no slot (R137). -/
theorem locks_broken_sound {k : Fin 2} {o : Initiator} {line : Addr} {e : Nat} (h : s.locks.Sound)
    (hheld : s.locks.slots.get k = .held o line e) : ((s.locks.put k .free).mark o (some line)).Sound := by
  have hfree := h.putFree k
  refine ⟨hfree.owners, hfree.lines, fun j i hj => ?_⟩
  have hmarker := hfree.markers j i hj
  simp only [LockUnit.mark, LockUnit.put, get_vset] at hj hmarker ⊢
  split at hj
  · cases hj
  next hjk =>
    have hio : i ≠ o := fun hio => hjk (h.owners j k o (hio ▸ hj) (hheld ▸ rfl))
    rwa [if_neg hio]

theorem locks_deliver_sound (h : s.locks.Sound) (q : Requester) (o : PortOutcome) : (s.deliver q o).locks.Sound := by
  cases q with
  | head => simpa [deliver] using h
  | request seq =>
    unfold deliver requestOutcome
    dsimp only
    split
    · exact h
    · split
      · exact h
      · simpa using h.outcome seq _ _
  | orphan | none => exact h

/-- No lock and no marker (R141, R142, R143). -/
theorem locks_clear_sound : LockUnit.clear.Sound := by
  refine ⟨fun j _ _ hj => ?_, fun j _ _ hj => ?_, fun j _ hj => ?_⟩ <;>
    simp [LockUnit.clear, LockSlot.owner, LockSlot.line] at hj

@[simp] theorem reservationExpired_locks (s : State) : s.reservationExpired.locks = s.locks := by
  unfold reservationExpired; split <;> rfl

theorem Move.locks (h : s.Move t) (hs : s.locks.Sound) : t.locks.Sound := by
  cases h with
  | quiet hquiet => rwa [hquiet.locks]
  | unlock k => exact hs.putFree k
  | unmark i => exact hs.markNone i
  | lock hnone hopen => exact locks_lock_sound hs hnone hopen
  | close hheld => exact hs.putSame _ (by rw [hheld]; rfl) (by rw [hheld]; rfl)
  | broken hheld => exact locks_broken_sound hs hheld
  | linkReset | softReset | powerOn => exact locks_clear_sound
  | outcome _ _ o => exact locks_deliver_sound (by exact hs) _ o
  | reservation => rwa [reservationExpired_locks]
  | decide => rwa [arbitrate_locks]
  | respond | refuse | fault | popped | forget | retain | latch | sealing | merge | overdue | create | number | enter
  | unstall => exact hs

end State

open State

/-- Settles O3: a command's next state is reached by moves, none of which touches the queue. -/
theorem everyCommandHasANextState : Obligations.EveryCommandHasANextState := fun c s =>
  let ⟨t, hexec, hrun⟩ := exec_moves c s
  ⟨t, hexec, hrun.pending⟩

/-- Settles O54, move by move. -/
theorem faultQueueLawIsKept : Obligations.FaultQueueLawIsKept := fun _ _ =>
  step_keeps (P := fun s => s.faults.Sound) (fun _ _ _ hs => hs) Move.faults

/-- Settles O55, move by move. -/
theorem favouredListLawIsKept : Obligations.FavouredListLawIsKept := fun _ _ =>
  step_keeps (P := fun s => s.progress.Sound) (fun _ _ _ hs => hs) Move.progress

/-- Settles O56, move by move. -/
theorem lockLawIsKept : Obligations.LockLawIsKept := fun _ _ =>
  step_keeps (P := fun s => s.locks.Sound) (fun _ _ _ hs => hs) Move.locks

end Sys2Proof.Machine
end

section
/-! The Posting Queue and the Wait List, move by move (R23 to R25, R31, R53, R55, R165, R166): the laws of each list
under the changes made to it, then the laws that tie the ISSUED ones to what the Memory Port is BUSY with (R81). -/

namespace Sys2Proof.Machine

open Sys2Proof

/-! ### The Posting Queue -/

/-- An entry after a change that neither reopens it nor moves its place, its line or its issue. -/
structure PostingEntry.Becomes (e f : PostingEntry) : Prop where
  seq : f.seq = e.seq
  line : f.line = e.line
  cls : f.cls = e.cls
  opened : f.isOpen = true → e.isOpen = true
  timer : f.isOpen = f.mergeExpiry.isSome
  contributors : f.contributors ≠ [] ∧ f.contributors.Nodup
  issued : f.state = .issued ↔ e.state = .issued

section
variable {q : List PostingEntry} {n : Nat} {e : PostingEntry}

/-- A change of entries that keeps each one's place and does not reopen it keeps the law of the queue. -/
theorem PostingSound.map (h : PostingSound q n) {f : PostingEntry → PostingEntry} (hseq : ∀ e ∈ q, (f e).seq = e.seq)
    (hline : ∀ e ∈ q, (f e).line = e.line) (hcls : ∀ e ∈ q, (f e).cls = e.cls)
    (hopen : ∀ e ∈ q, (f e).isOpen = true → e.isOpen = true)
    (htimer : ∀ e ∈ q, (f e).isOpen = (f e).mergeExpiry.isSome)
    (hcontributors : ∀ e ∈ q, (f e).contributors ≠ [] ∧ (f e).contributors.Nodup) : PostingSound (q.map f) n where
  atMost := by simpa using h.atMost
  ordered := List.pairwise_map.2 (h.ordered.imp_of_mem fun he hf hlt => by rwa [hseq _ he, hseq _ hf])
  numbered := List.forall_mem_map.2 fun e he => by rw [hseq e he]; exact h.numbered e he
  oneOpen := List.pairwise_map.2 (h.oneOpen.imp_of_mem fun he hf hne ho ho' => by
    rw [hline _ he, hline _ hf]; exact hne (hopen _ he ho) (hopen _ hf ho'))
  openTimer := List.forall_mem_map.2 htimer
  openMerge := List.forall_mem_map.2 fun e he ho => by rw [hcls e he]; exact h.openMerge e he (hopen e he ho)
  contributors := List.forall_mem_map.2 hcontributors

theorem PostingSound.becomes (h : PostingSound q n) {f : PostingEntry → PostingEntry}
    (hf : ∀ e ∈ q, e.Becomes (f e)) : PostingSound (q.map f) n :=
  h.map (fun e he => (hf e he).seq) (fun e he => (hf e he).line) (fun e he => (hf e he).cls)
    (fun e he => (hf e he).opened) (fun e he => (hf e he).timer) fun e he => (hf e he).contributors

theorem PostingSound.mono (h : PostingSound q n) {m : Nat} (hle : n ≤ m) : PostingSound q m :=
  { h with numbered := fun e he => (h.numbered e he).trans_le hle }

theorem PostingSound.nil (n : Nat) : PostingSound [] n where
  atMost := Nat.zero_le _
  ordered := .nil
  numbered := by simp
  oneOpen := .nil
  openTimer := by simp
  openMerge := by simp
  contributors := by simp

theorem PostingSound.tail {rest : List PostingEntry} (h : PostingSound (e :: rest) n) : PostingSound rest n where
  atMost := (Nat.le_succ _).trans h.atMost
  ordered := h.ordered.of_cons
  numbered := fun f hf => h.numbered f (List.mem_cons_of_mem _ hf)
  oneOpen := h.oneOpen.of_cons
  openTimer := fun f hf => h.openTimer f (List.mem_cons_of_mem _ hf)
  openMerge := fun f hf => h.openMerge f (List.mem_cons_of_mem _ hf)
  contributors := fun f hf => h.contributors f (List.mem_cons_of_mem _ hf)

/-- A new entry at the tail, which is OPEN only where its line has no OPEN entry (R28). -/
theorem PostingSound.concat (h : PostingSound q n) (hroom : q.length < 16) (hseq : e.seq = n)
    (halone : e.isOpen = true → ∀ f ∈ q, f.isOpen = true → f.line ≠ e.line)
    (htimer : e.isOpen = e.mergeExpiry.isSome) (hmerge : e.isOpen = true → e.cls = .merge)
    (hcontributors : e.contributors ≠ [] ∧ e.contributors.Nodup) : PostingSound (q ++ [e]) (n + 1) where
  atMost := by simpa using hroom
  ordered := List.pairwise_append.2 ⟨h.ordered, List.pairwise_singleton _ _, fun f hf g hg => by
    rw [List.mem_singleton.1 hg, hseq]; exact h.numbered f hf⟩
  numbered := by
    simp only [List.mem_append, List.mem_singleton]
    rintro f (hf | rfl)
    · exact (h.numbered f hf).trans (Nat.lt_succ_self n)
    · exact hseq ▸ Nat.lt_succ_self n
  oneOpen := List.pairwise_append.2 ⟨h.oneOpen, List.pairwise_singleton _ _, fun f hf g hg ho ho' => by
    rw [List.mem_singleton.1 hg] at ho' ⊢; exact halone ho' f hf ho⟩
  openTimer := by
    simp only [List.mem_append, List.mem_singleton]
    rintro f (hf | rfl)
    · exact h.openTimer f hf
    · exact htimer
  openMerge := by
    simp only [List.mem_append, List.mem_singleton]
    rintro f (hf | rfl)
    · exact h.openMerge f hf
    · exact hmerge
  contributors := by
    simp only [List.mem_append, List.mem_singleton]
    rintro f (hf | rfl)
    · exact h.contributors f hf
    · exact hcontributors

/-! The changes of single entries. -/

theorem PostingEntry.Becomes.refl (htimer : e.isOpen = e.mergeExpiry.isSome)
    (hcontributors : e.contributors ≠ [] ∧ e.contributors.Nodup) : e.Becomes e :=
  ⟨rfl, rfl, rfl, id, htimer, hcontributors, Iff.rfl⟩

theorem PostingSound.becomes_self (h : PostingSound q n) (he : e ∈ q) : e.Becomes e :=
  .refl (h.openTimer e he) (h.contributors e he)

theorem PostingEntry.isOpen_iff : e.isOpen = true ↔ e.state = .opened := beq_iff_eq

theorem PostingEntry.isOpen_close (e : PostingEntry) : e.close.isOpen = false := by
  cases h : e.isOpen with
  | true => rw [close, if_pos h]; rfl
  | false => rw [close, if_neg (by simp [h]), h]

theorem PostingEntry.close_becomes (htimer : e.isOpen = e.mergeExpiry.isSome)
    (hcontributors : e.contributors ≠ [] ∧ e.contributors.Nodup) : e.Becomes e.close := by
  unfold close
  split
  next hopen =>
    have hstate := isOpen_iff.1 hopen
    exact ⟨rfl, rfl, rfl, fun _ => hopen, rfl, hcontributors, by simp [hstate]⟩
  next => exact .refl htimer hcontributors

theorem PostingSound.close_becomes (h : PostingSound q n) (test : PostingEntry → Bool) (he : e ∈ q) :
    e.Becomes (if test e then e.close else e) := by
  split
  · exact PostingEntry.close_becomes (h.openTimer e he) (h.contributors e he)
  · exact h.becomes_self he

theorem PostingSound.closeWhere (h : PostingSound q n) (test : PostingEntry → Bool) :
    PostingSound (closeWhere test q) n := h.becomes fun _ he => h.close_becomes test he

/-- A contributor is named once (2.1). -/
theorem contributors_merge {l : List Initiator} (h : l ≠ [] ∧ l.Nodup) (i : Initiator) :
    (if i ∈ l then l else l ++ [i]) ≠ [] ∧ (if i ∈ l then l else l ++ [i]).Nodup := by
  obtain ⟨hne, hnodup⟩ := h
  split
  · exact ⟨hne, hnodup⟩
  next hi => exact ⟨by simp, hnodup.append (List.nodup_singleton i) (by simpa using hi)⟩

theorem PostingSound.merge_becomes (h : PostingSound q n) (he : e ∈ q) (i : Initiator) (a : Addr) (size : Size)
    (data : List Byte) (mark : Option Nat) : e.Becomes (e.merge i a size data mark) :=
  ⟨rfl, rfl, rfl, id, h.openTimer e he, contributors_merge (h.contributors e he) i, Iff.rfl⟩

end

/-! ### The Wait List -/

section
variable {l : List WaitEntry} {tags : Vector (List Tag) 8} {n : Nat} {v w : WaitEntry}

/-- Sequence numbers tell the requests of the list apart (R24). -/
theorem WaitingSound.eq_of_seq (h : WaitingSound l tags n) (hv : v ∈ l) (hw : w ∈ l) (hseq : v.seq = w.seq) : v = w := by
  have hnodup : (l.map (·.seq)).Nodup := List.pairwise_map.2 (h.ordered.imp Nat.ne_of_lt)
  exact List.inj_on_of_nodup_map hnodup hv hw hseq

/-- A tag tells the requests of one initiator apart (R165). -/
theorem WaitingSound.eq_of_tag (h : WaitingSound l tags n) (hv : v ∈ l) (hw : w ∈ l)
    (hinitiator : v.initiator = w.initiator) (htag : v.tag = w.tag) : v = w := by
  have hnodup := h.nodup w.initiator
  rw [h.tags] at hnodup
  exact List.inj_on_of_nodup_map hnodup (List.mem_filter.2 ⟨hv, by simp [hinitiator]⟩)
    (List.mem_filter.2 ⟨hw, by simp⟩) htag

/-- The tag of a waiting request is outstanding (R165). -/
theorem WaitingSound.tag_mem (h : WaitingSound l tags n) (hw : w ∈ l) : w.tag ∈ tags.get w.initiator := by
  rw [h.tags]
  exact List.mem_map_of_mem (List.mem_filter.2 ⟨hw, by simp⟩)

theorem WaitingSound.mono (h : WaitingSound l tags n) {m : Nat} (hle : n ≤ m) : WaitingSound l tags m :=
  { h with numbered := fun w hw => (h.numbered w hw).trans_le hle }

theorem WaitingSound.nil (n : Nat) : WaitingSound [] (Vector.replicate 8 []) n where
  ordered := .nil
  numbered := by simp
  fences := by simp
  tags := by simp
  nodup := by simp
  atMost := by simp

/-- A change of requests that keeps each one's place, sender and tag, and issues no FENCE. -/
theorem WaitingSound.map (h : WaitingSound l tags n) {f : WaitEntry → WaitEntry} (hseq : ∀ w, (f w).seq = w.seq)
    (hinitiator : ∀ w, (f w).initiator = w.initiator) (htag : ∀ w, (f w).tag = w.tag)
    (hfence : ∀ w, (f w).isFence = true → w.isFence = true ∧ (f w).state = w.state) : WaitingSound (l.map f) tags n where
  ordered := List.pairwise_map.2 (h.ordered.imp fun hlt => by rwa [hseq, hseq])
  numbered := List.forall_mem_map.2 fun w hw => by rw [hseq]; exact h.numbered w hw
  fences := List.forall_mem_map.2 fun w hw hf => (hfence w hf).2.trans (h.fences w hw (hfence w hf).1)
  tags := fun i => by
    rw [h.tags, List.filter_map, List.map_map]
    simp only [Function.comp_def, hinitiator, htag]
  nodup := h.nodup
  atMost := h.atMost

/-- A request that joins at the end, with a tag that was not outstanding (R54, R165). -/
theorem WaitingSound.concat (h : WaitingSound l tags n) (hseq : w.seq = n) (hstate : w.state = .waiting)
    (hfresh : w.tag ∉ tags.get w.initiator) (hroom : (tags.get w.initiator).length < 4) :
    WaitingSound (l ++ [w]) (vset tags w.initiator (tags.get w.initiator ++ [w.tag])) (n + 1) where
  ordered := List.pairwise_append.2 ⟨h.ordered, List.pairwise_singleton _ _, fun v hv x hx => by
    rw [List.mem_singleton.1 hx, hseq]; exact h.numbered v hv⟩
  numbered := by
    simp only [List.mem_append, List.mem_singleton]
    rintro v (hv | rfl)
    · exact (h.numbered v hv).trans (Nat.lt_succ_self n)
    · exact hseq ▸ Nat.lt_succ_self n
  fences := by
    simp only [List.mem_append, List.mem_singleton]
    rintro v (hv | rfl)
    · exact h.fences v hv
    · exact fun _ => hstate
  tags := fun i => by
    rw [get_vset, List.filter_append, List.map_append, ← h.tags]
    split
    next hi => subst hi; simp
    next hi => simp [Ne.symm hi]
  nodup := fun i => by
    rw [get_vset]
    split
    · exact (h.nodup _).append (List.nodup_singleton _) (by simpa using hfresh)
    · exact h.nodup i
  atMost := fun i => by
    rw [get_vset]
    split
    · simpa using hroom
    · exact h.atMost i

/-- The outstanding tags after requests have left: those of none of them (R67, R165). -/
theorem get_foldl_freeTags (ws : List WaitEntry) (tags : Vector (List Tag) 8) (i : Initiator) :
    (ws.foldl (fun v w => vset v w.initiator ((v.get w.initiator).filter (· != w.tag))) tags).get i =
      (tags.get i).filter fun t => decide (∀ w ∈ ws, w.initiator = i → w.tag ≠ t) := by
  induction ws generalizing tags with
  | nil => simp
  | cons w rest ih =>
    rw [List.foldl_cons, ih, get_vset]
    split
    next hi =>
      subst hi
      rw [List.filter_filter]
      refine List.filter_congr fun t _ => ?_
      rw [Bool.eq_iff_iff, Bool.and_eq_true, bne_iff_ne, decide_eq_true_eq, decide_eq_true_eq, List.forall_mem_cons,
        and_comm, ne_comm]
      simp
    next hi => exact List.filter_congr fun t _ => by simp [Ne.symm hi]

/-- Requests leave the list with their tags (R67, R165). -/
theorem WaitingSound.remove (h : WaitingSound l tags n) {ws : List WaitEntry}
    (hws : ∀ w ∈ ws, ∃ v ∈ l, v.seq = w.seq ∧ v.initiator = w.initiator ∧ v.tag = w.tag) :
    WaitingSound (l.filter fun v => !(ws.any fun w => w.seq == v.seq))
      (ws.foldl (fun v w => vset v w.initiator ((v.get w.initiator).filter (· != w.tag))) tags) n where
  ordered := h.ordered.filter _
  numbered := fun w hw => h.numbered w (List.mem_filter.1 hw).1
  fences := fun w hw => h.fences w (List.mem_filter.1 hw).1
  tags := fun i => by
    rw [get_foldl_freeTags, h.tags, List.filter_map, List.filter_filter, List.filter_filter]
    congr 1
    refine List.filter_congr fun v hv => ?_
    rw [Bool.eq_iff_iff]
    simp only [Function.comp_apply, Bool.and_eq_true, decide_eq_true_eq, beq_iff_eq, Bool.not_eq_true',
      List.any_eq_false]
    refine ⟨fun ⟨htags, hi⟩ => ⟨hi, fun w hw hseq => ?_⟩, fun ⟨hi, hseqs⟩ => ⟨fun w hw hwi htag => ?_, hi⟩⟩
    · obtain ⟨x, hx, hxseq, hxi, hxtag⟩ := hws w hw
      obtain rfl := h.eq_of_seq hx hv (hxseq.trans hseq)
      exact htags w hw (hxi.symm.trans hi) hxtag.symm
    · obtain ⟨x, hx, hxseq, hxi, hxtag⟩ := hws w hw
      obtain rfl := h.eq_of_tag hx hv ((hxi.trans hwi).trans hi.symm) (hxtag.trans htag)
      exact hseqs w hw hxseq.symm
  nodup := fun i => by rw [get_foldl_freeTags]; exact (h.nodup i).filter _
  atMost := fun i => by rw [get_foldl_freeTags]; exact (List.length_filter_le _ _).trans (h.atMost i)

end

end Sys2Proof.Machine
end

section
/-! What is ISSUED is what the Memory Port is BUSY with (R25, R55, R81), and with it the laws of the two queues, move by
move. -/

namespace Sys2Proof.Machine

open Sys2Proof

namespace State

variable {s t : State} {aw : Awaited} {expiry : Nat} {q : Requester} {e : PostingEntry} {w : WaitEntry}

/-! ### Whose access the port is BUSY with -/

theorem busyWith_iff (h : s.port.state = .busy aw expiry) : s.busyWith q ↔ aw.requester = q := by
  refine ⟨fun ⟨aw', e', h', hq⟩ => ?_, fun hq => ⟨aw, expiry, h, hq⟩⟩
  rw [h] at h'
  cases h'
  exact hq

theorem not_busyWith (h : ∀ aw e, s.port.state ≠ .busy aw e) (q : Requester) : ¬ s.busyWith q :=
  fun ⟨aw, e, hbusy, _⟩ => h aw e hbusy

theorem busyWith_congr (h : t.port.state = s.port.state) (q : Requester) : t.busyWith q ↔ s.busyWith q := by
  simp only [busyWith, h]

/-- A reset takes the access of the requesters it names from them, and from nobody else (R87). -/
theorem busyWith_orphanAccess (s : State) (test : Requester → Bool) (hq : q ≠ .orphan) :
    (s.orphanAccess test).busyWith q ↔ s.busyWith q ∧ test q = false := by
  unfold orphanAccess
  split
  next aw e hbusy =>
    split
    next htest =>
      have horphan : (s.setPort (.busy { aw with requester := .orphan } e)).port.state =
        .busy { aw with requester := .orphan } e := rfl
      rw [busyWith_iff horphan, busyWith_iff hbusy]
      exact ⟨fun h => absurd h.symm hq, fun ⟨h, hfalse⟩ => by simp [h, hfalse] at htest⟩
    next htest =>
      rw [busyWith_iff hbusy]
      exact ⟨fun h => ⟨h, by simpa [h] using htest⟩, fun h => h.1⟩
  all_goals
    next hport =>
      have hidle : ¬ s.busyWith q := not_busyWith (by simp [hport]) q
      exact ⟨fun h => absurd h hidle, fun h => absurd h.1 hidle⟩

/-! ### The choice of the Issue Arbiter, inverted -/

theorem drainEligible_sealed {rest : List PostingEntry} (h : s.posting = e :: rest) (hdrain : s.drainEligible = true) :
    e.state = .sealed := ((drainEligible_iff h).1 hdrain).1

/-- The Posting Queue head is granted only where it is drain-eligible (R42, R73). -/
theorem head_of_choice (h : s.choice = some (.head e)) : s.drainEligible = true ∧ ∃ rest, s.posting = e :: rest := by
  unfold choice at h
  split at h
  next hdrain =>
    obtain ⟨f, hhead, rfl⟩ : ∃ f, s.posting.head? = some f ∧ f = e := by simpa using h
    exact ⟨(Bool.and_eq_true_iff.1 hdrain).1, List.head?_eq_some_iff.1 hhead⟩
  next =>
    split at h
    · simp at h
    · split at h
      next hdrain =>
        obtain ⟨f, hhead, rfl⟩ : ∃ f, s.posting.head? = some f ∧ f = e := by simpa using h
        exact ⟨hdrain, List.head?_eq_some_iff.1 hhead⟩
      next => cases h

/-- A request is granted only where it waits and is eligible (R73). -/
theorem request_of_choice (h : s.choice = some (.request w)) : w ∈ s.waiting ∧ s.eligible w = true := by
  unfold choice at h
  split at h
  · simp at h
  · split at h
    next v hfind =>
      cases h
      exact ⟨List.mem_of_find?_eq_some hfind, List.find?_some hfind⟩
    next => split at h <;> simp at h

/-- Only a WAITING request that makes an access is eligible (3.2). -/
theorem waiting_of_eligible (h : s.eligible w = true) : w.state = .waiting ∧ ∃ a, w.work = .access a := by
  unfold eligible at h
  split at h
  next a hstate hwork => exact ⟨hstate, a, hwork⟩
  all_goals cases h

/-- The issue of a request: its claim, its mark ISSUED, and one access presented for it (R64). -/
theorem issueRequest_of_access {a : WaitAccess} (h : w.work = .access a) :
    ∃ d address size mask data, s.issueRequest w =
      ((if a.isDeviceRead then s.claimPlace w.seq w.initiator a else s).markIssued w.seq).present d address size mask data
        a.region (.request w.seq) := by
  simp only [issueRequest, h]
  split <;> exact ⟨_, _, _, _, _, rfl⟩

/-- What a decision of the Issue Arbiter can do (R72, R73). -/
theorem arbitrate_cases (s : State) :
    s.arbitrate = s ∨
      s.port.state = .ready ∧
        ((∃ e rest, s.posting = e :: rest ∧ s.drainEligible = true ∧ s.arbitrate = s.issueHead e) ∨
          ∃ w a, w ∈ s.waiting ∧ s.eligible w = true ∧ w.work = .access a ∧ s.arbitrate = s.issueRequest w) := by
  unfold arbitrate
  split
  next hready =>
    split
    next e hchoice =>
      obtain ⟨hdrain, rest, hposting⟩ := head_of_choice hchoice
      exact .inr ⟨hready, .inl ⟨e, rest, hposting, hdrain, rfl⟩⟩
    next w hchoice =>
      obtain ⟨hw, heligible⟩ := request_of_choice hchoice
      obtain ⟨_, a, hwork⟩ := waiting_of_eligible heligible
      exact .inr ⟨hready, .inr ⟨w, a, hw, heligible, hwork, rfl⟩⟩
    next => exact .inl rfl
  all_goals exact .inl rfl

/-! ### The laws under changes of one list -/

/-- The laws read the two lists, the tags, the next sequence number and whose access the port is BUSY with. -/
theorem QueuesSound.congr (h : s.QueuesSound) (hposting : t.posting = s.posting) (hwaiting : t.waiting = s.waiting)
    (htags : t.fabric.outTags = s.fabric.outTags) (hseq : t.fabric.nextSeq = s.fabric.nextSeq)
    (hbusy : ∀ q, t.busyWith q ↔ s.busyWith q) : t.QueuesSound where
  posting := by rw [hposting, hseq]; exact h.posting
  waiting := by rw [hwaiting, htags, hseq]; exact h.waiting
  head := by rw [hposting, hbusy]; exact h.head
  behind := by rw [hposting]; exact h.behind
  request := by rw [hwaiting]; simpa only [hbusy] using h.request
  awaited := by rw [hwaiting]; simpa only [hbusy] using h.awaited

/-- With the port not BUSY nothing may be ISSUED. -/
theorem QueuesSound.of_idle (hport : ∀ aw e, s.port.state ≠ .busy aw e)
    (hposting : PostingSound s.posting s.fabric.nextSeq)
    (hwaiting : WaitingSound s.waiting s.fabric.outTags s.fabric.nextSeq) (hentries : ∀ e ∈ s.posting, e.state ≠ .issued)
    (hrequests : ∀ w ∈ s.waiting, w.state ≠ .issued) : s.QueuesSound where
  posting := hposting
  waiting := hwaiting
  head := by
    refine ⟨fun ⟨e, rest, hq, he⟩ => absurd he (hentries e (by simp [hq])), fun h => absurd h (not_busyWith hport _)⟩
  behind := fun e he => hentries e (List.mem_of_mem_tail he)
  request := fun w hw => ⟨fun h => absurd h (hrequests w hw), fun h => absurd h (not_busyWith hport _)⟩
  awaited := fun _ h => absurd h (not_busyWith hport _)

/-- An ISSUED entry is the head, which the port is BUSY with (R25). -/
theorem QueuesSound.busyWith_head (h : s.QueuesSound) (he : e ∈ s.posting) (hissued : e.state = .issued) :
    s.busyWith .head := by
  have hbehind := h.behind
  refine h.head.1 ?_
  cases hq : s.posting with
  | nil => simp [hq] at he
  | cons f rest =>
    rw [hq] at he hbehind
    rcases List.mem_cons.1 he with rfl | hrest
    · exact ⟨e, rest, rfl, hissued⟩
    · exact absurd hissued (hbehind e hrest)

theorem QueuesSound.map_posting (h : s.QueuesSound) {f : PostingEntry → PostingEntry}
    (hf : ∀ e ∈ s.posting, e.Becomes (f e)) : { s with posting := s.posting.map f }.QueuesSound where
  posting := h.posting.becomes hf
  waiting := h.waiting
  head := by
    have hhead := h.head
    refine Iff.trans ?_ hhead
    cases hq : s.posting with
    | nil => simp
    | cons e rest => simp [(hf e (by simp [hq])).issued]
  behind := by
    intro e he
    change e ∈ (s.posting.map f).tail at he
    rw [← List.map_tail] at he
    obtain ⟨f, hmem, rfl⟩ := List.mem_map.1 he
    exact mt (hf f (List.mem_of_mem_tail hmem)).issued.1 (h.behind f hmem)
  request := h.request
  awaited := h.awaited

/-- A change of requests that keeps each one's place, sender, tag and issue. -/
theorem QueuesSound.map_waiting (h : s.QueuesSound) {f : WaitEntry → WaitEntry} (hseq : ∀ w, (f w).seq = w.seq)
    (hinitiator : ∀ w, (f w).initiator = w.initiator) (htag : ∀ w, (f w).tag = w.tag)
    (hfence : ∀ w, (f w).isFence = w.isFence) (hstate : ∀ w, (f w).state = w.state) :
    { s with waiting := s.waiting.map f }.QueuesSound where
  posting := h.posting
  waiting := h.waiting.map hseq hinitiator htag fun w hw => ⟨hfence w ▸ hw, hstate w⟩
  head := h.head
  behind := h.behind
  request := List.forall_mem_map.2 fun w hw => by rw [hstate, hseq]; exact h.request w hw
  awaited := fun n hn =>
    let ⟨w, hw, hwn⟩ := h.awaited n hn
    ⟨f w, List.mem_map_of_mem hw, (hseq w).trans hwn⟩

theorem QueuesSound.takeSeq (h : s.QueuesSound) : s.takeSeq.QueuesSound where
  posting := h.posting.mono (Nat.le_succ _)
  waiting := h.waiting.mono (Nat.le_succ _)
  head := h.head
  behind := h.behind
  request := h.request
  awaited := h.awaited

/-! ### Entries and requests that join -/

/-- An entry joins at the tail, not ISSUED, with the next sequence number (R24, R28). -/
theorem QueuesSound.concat_posting (h : s.QueuesSound) {e : PostingEntry}
    (hsound : PostingSound (s.posting ++ [e]) (s.fabric.nextSeq + 1)) (hissued : e.state ≠ .issued) :
    { s with posting := s.posting ++ [e] }.takeSeq.QueuesSound where
  posting := hsound
  waiting := h.waiting.mono (Nat.le_succ _)
  head := by
    refine Iff.trans ?_ h.head
    cases hq : s.posting with
    | nil => simp [hissued]
    | cons f rest => simp
  behind := by
    intro f hf
    cases hq : s.posting with
    | nil => simp [hq] at hf
    | cons g rest =>
      have hbehind := h.behind
      simp only [takeSeq_posting, hq, List.cons_append, List.tail_cons, List.mem_append, List.mem_singleton] at hf hbehind
      rcases hf with hf | rfl
      · exact hbehind f hf
      · exact hissued
  request := h.request
  awaited := h.awaited

theorem newEntry_state_ne_issued (s : State) (r : Request) (c : Classification) (a : Addr) (size : Size)
    (data : List Byte) : (s.newEntry r c a size data).state ≠ .issued := by
  simp only [newEntry]
  split <;> exact EntryState.noConfusion

/-- A new entry is OPEN exactly where it is of class MERGE and the merge age is above 0 (R28). -/
theorem newEntry_isOpen_iff (s : State) (r : Request) (c : Classification) (a : Addr) (size : Size)
    (data : List Byte) :
    (s.newEntry r c a size data).isOpen = true ↔ c.cls = .merge ∧ 0 < s.mgmt.limits.mergeAge := by
  simp only [PostingEntry.isOpen_iff, newEntry]
  split <;> simp [*]

theorem newEntry_timer (s : State) (r : Request) (c : Classification) (a : Addr) (size : Size) (data : List Byte) :
    (s.newEntry r c a size data).isOpen = (s.newEntry r c a size data).mergeExpiry.isSome := by
  rw [Bool.eq_iff_iff, newEntry_isOpen_iff]
  simp only [newEntry]
  split <;> simp [*]

/-- Where a write of class MERGE does not merge, its line has no OPEN entry (R27). -/
theorem line_ne_of_not_merges {line : Addr} (h : s.merges .merge line = false) :
    ∀ e ∈ s.posting, e.isOpen = true → e.line ≠ line := by
  intro e he hopen hline
  have hany : s.merges .merge line = true := by
    simp only [merges, beq_self_eq_true, Bool.true_and, List.any_eq_true]
    exact ⟨e, he, by simp [hopen, hline]⟩
  simp [h] at hany

theorem QueuesSound.createEntry (h : s.QueuesSound) {r : Request} {c : Classification} {a : Addr} {size : Size}
    {data : List Byte} (hroom : s.posting.length < 16) (halone : s.merges c.cls (lineOf a) = false) :
    (s.createEntry r c a size data).QueuesSound := by
  have hopen := s.newEntry_isOpen_iff r c a size data
  have htimer := s.newEntry_timer r c a size data
  have hcontributors : (s.newEntry r c a size data).contributors ≠ [] ∧
    (s.newEntry r c a size data).contributors.Nodup := ⟨List.cons_ne_nil _ _, List.nodup_singleton _⟩
  unfold State.createEntry
  dsimp only
  split
  next hposted =>
    have hsealed := h.map_posting fun e he => h.posting.close_becomes (fun e => e.line == lineOf a) he
    have hnever : (s.newEntry r c a size data).isOpen ≠ true := by rw [Ne, hopen, hposted]; simp
    exact hsealed.concat_posting
      (hsealed.posting.concat (by simpa using hroom) rfl (fun ho => absurd ho hnever) htimer
        (fun ho => absurd ho hnever) hcontributors) (s.newEntry_state_ne_issued r c a size data)
  next =>
    refine h.concat_posting (h.posting.concat hroom rfl (fun ho => ?_) htimer (fun ho => (hopen.1 ho).1) hcontributors)
      (s.newEntry_state_ne_issued r c a size data)
    rw [(hopen.1 ho).1] at halone
    exact line_ne_of_not_merges halone

theorem QueuesSound.enterWait (h : s.QueuesSound) {r : Request} (work : WaitWork)
    (hfresh : r.tag ∉ s.fabric.outTags.get r.initiator) (hroom : (s.fabric.outTags.get r.initiator).length < 4) :
    (s.enterWait r work).QueuesSound where
  posting := h.posting.mono (Nat.le_succ _)
  waiting := h.waiting.concat rfl rfl hfresh hroom
  head := h.head
  behind := h.behind
  request := by
    simp only [enterWait_waiting, List.mem_append, List.mem_singleton]
    rintro w (hw | rfl)
    · exact h.request w hw
    · refine ⟨fun hissued => WaitState.noConfusion hissued, fun hbusy => ?_⟩
      obtain ⟨v, hv, hseq⟩ := h.awaited _ hbusy
      exact absurd hseq (h.waiting.numbered v hv).ne
  awaited := fun n hn =>
    let ⟨w, hw, hwn⟩ := h.awaited n hn
    ⟨w, List.mem_append_left _ hw, hwn⟩

/-! ### Resets -/

@[simp] theorem dropLink_posting (s : State) :
    s.dropLink.posting = s.posting.map fun (e : PostingEntry) => { e with heldBehind := none } := rfl

theorem QueuesSound.dropLink (h : s.QueuesSound) :
    ((s.dropLink.orphanAccess Requester.isRequest).clearTraffic).QueuesSound := by
  have hmarks := h.map_posting (f := fun e => { e with heldBehind := none }) fun e he =>
    have hself := h.posting.becomes_self he
    ⟨rfl, rfl, rfl, id, hself.timer, hself.contributors, Iff.rfl⟩
  have hrequests : ∀ n, ¬ (s.dropLink.orphanAccess Requester.isRequest).busyWith (.request n) := fun n hn =>
    Bool.noConfusion ((busyWith_orphanAccess _ _ Requester.noConfusion).1 hn).2
  have hhead : (s.dropLink.orphanAccess Requester.isRequest).busyWith .head ↔ s.busyWith .head := by
    rw [busyWith_orphanAccess _ _ Requester.noConfusion]
    exact and_iff_left rfl
  refine ⟨?_, ?_, ?_, ?_, ?_, fun n hn => absurd hn (hrequests n)⟩
  · simpa using hmarks.posting
  · simpa using WaitingSound.nil _
  · refine Iff.trans ?_ (hmarks.head.trans hhead.symm)
    rw [clearTraffic_posting, orphanAccess_posting]
    rfl
  · rw [clearTraffic_posting, orphanAccess_posting]
    exact hmarks.behind
  · simp

theorem discardPosted_posting (s : State) : s.discardPosted.posting = [] := by
  unfold discardPosted
  split
  next hempty => exact List.isEmpty_iff.1 hempty
  next => rfl

theorem QueuesSound.dropAll (s : State) :
    ((s.discardPosted.abandonRequests.orphanAccess fun _ => true).clearTraffic).QueuesSound := by
  have hposting : s.discardPosted.abandonRequests.posting = [] := by simp [abandonRequests, discardPosted_posting]
  have hidle : ∀ q ≠ .orphan, ¬ (s.discardPosted.abandonRequests.orphanAccess fun _ => true).busyWith q := fun q hq h =>
    Bool.noConfusion ((busyWith_orphanAccess _ _ hq).1 h).2
  refine ⟨?_, ?_, ?_, ?_, ?_, fun n hn => absurd hn (hidle _ Requester.noConfusion)⟩
  · simpa [hposting] using PostingSound.nil _
  · simpa [abandonRequests] using WaitingSound.nil _
  · refine ⟨fun ⟨e, rest, hq, _⟩ => ?_, fun h => absurd h (hidle _ Requester.noConfusion)⟩
    simp [hposting] at hq
  · simp [hposting]
  · simp [abandonRequests]

theorem QueuesSound.powerOn (s : State) : s.powerOn.QueuesSound :=
  .of_idle (fun _ _ => PortState.noConfusion) (.nil _) (.nil _) (by simp [State.powerOn, State.reset])
    (by simp [State.powerOn, State.reset])

end State

end Sys2Proof.Machine
end

section
/-! Departures and outcomes (R47, R65, R67, R70), then the laws of the queues under every move. -/

namespace Sys2Proof.Machine

open Sys2Proof

namespace WaitEntry

variable (seq : Nat) (w : WaitEntry)

@[simp] theorem seq_release : (w.release seq).seq = w.seq := by unfold release; split <;> rfl
@[simp] theorem initiator_release : (w.release seq).initiator = w.initiator := by unfold release; split <;> rfl
@[simp] theorem tag_release : (w.release seq).tag = w.tag := by unfold release; split <;> rfl
@[simp] theorem state_release : (w.release seq).state = w.state := by unfold release; split <;> rfl

@[simp] theorem isFence_release : (w.release seq).isFence = w.isFence := by
  unfold release isFence
  cases w.work <;> rfl

end WaitEntry

namespace State

variable {s t : State} {aw : Awaited} {expiry : Nat} {p : PortState} {e : PostingEntry} {w : WaitEntry} {a : WaitAccess}
  {n : Nat}

/-! ### The operations, said once -/

theorem depart_waiting (s : State) (n : Nat) (rs : List Response) :
    (s.depart n rs).waiting =
      (s.waiting.map (WaitEntry.release n)).filter fun v =>
        !((s.waiting.filter (WaitEntry.isLastOf n)).any fun w => w.seq == v.seq) := by
  simp [depart, removeRequests_eq]

theorem depart_outTags (s : State) (n : Nat) (rs : List Response) :
    (s.depart n rs).fabric.outTags =
      (s.waiting.filter (WaitEntry.isLastOf n)).foldl
        (fun v w => vset v w.initiator ((v.get w.initiator).filter (· != w.tag))) s.fabric.outTags := by
  simp [depart, removeRequests_eq]

@[simp] theorem clearMarks_posting (s : State) (n : Nat) :
    (s.clearMarks n).posting =
      s.posting.map fun e => if e.heldBehind = some n then { e with heldBehind := none } else e := rfl

/-- The outcome of the issued head (R44 to R47). -/
theorem headOutcome_of_posting {rest : List PostingEntry} (h : s.posting = e :: rest) (o : PortOutcome) :
    s.headOutcome o = ({ s with posting := rest }.handOverAny (e.failure o)).depart e.seq [] := by
  simp only [headOutcome, h]

/-- A request at its outcome has reached the Capture Table, the Lock Unit and the marks behind it, and has left (R40,
R65). -/
def concluded (s : State) (w : WaitEntry) (a : WaitAccess) (o : PortOutcome) : State :=
  ({ (if a.claimed then s.fillPlace w a o.captureResult o.data else s) with
      locks := s.locks.outcome w.seq o.isOk (s.tick + s.mgmt.limits.lockTimeout) }.clearMarks
    w.seq).removeRequests [w]

/-- The outcome of an issued request (R65, R66, R67). -/
theorem requestOutcome_of_access (hfind : s.waiting.find? (fun v => v.seq == w.seq) = some w)
    (hwork : w.work = .access a) (o : PortOutcome) :
    s.requestOutcome w.seq o = (s.concluded w a o).depart w.seq [w.outcomeAnswer a o] := by
  simp only [requestOutcome, hfind, hwork]
  rfl

/-- The request with a sequence number, where no other has it. -/
theorem find?_seq_eq_some {l : List WaitEntry} (hw : w ∈ l) (hunique : ∀ v ∈ l, v.seq = w.seq → v = w) :
    l.find? (fun v => v.seq == w.seq) = some w := by
  cases hfind : l.find? (fun v => v.seq == w.seq) with
  | none => exact absurd (List.find?_eq_none.1 hfind w hw) (by simp)
  | some v =>
    have hseq : v.seq = w.seq := by simpa using List.find?_some hfind
    rw [hunique v (List.mem_of_find?_eq_some hfind) hseq]

/-- The Wait List and its tags once a request has been concluded; the fields that no outcome touches. -/
theorem concluded_waiting (s : State) (w : WaitEntry) (a : WaitAccess) (o : PortOutcome) :
    (s.concluded w a o).waiting = s.waiting.filter fun v => !([w].any fun w => w.seq == v.seq) := by
  unfold concluded
  split <;> simp [removeRequests_eq]

theorem concluded_outTags (s : State) (w : WaitEntry) (a : WaitAccess) (o : PortOutcome) :
    (s.concluded w a o).fabric.outTags =
      [w].foldl (fun v w => vset v w.initiator ((v.get w.initiator).filter (· != w.tag))) s.fabric.outTags := by
  unfold concluded
  split <;> simp [removeRequests_eq]

theorem concluded_posting (s : State) (w : WaitEntry) (a : WaitAccess) (o : PortOutcome) :
    (s.concluded w a o).posting =
      s.posting.map fun e => if e.heldBehind = some w.seq then { e with heldBehind := none } else e := by
  unfold concluded
  split <;> simp

theorem concluded_port (s : State) (w : WaitEntry) (a : WaitAccess) (o : PortOutcome) :
    (s.concluded w a o).port = s.port := by
  unfold concluded
  split <;> simp

theorem concluded_nextSeq (s : State) (w : WaitEntry) (a : WaitAccess) (o : PortOutcome) :
    (s.concluded w a o).fabric.nextSeq = s.fabric.nextSeq := by
  unfold concluded
  split <;> simp

/-! ### The laws of the queues at an outcome -/

theorem QueuesSound.not_issued_entry (h : s.QueuesSound) (hhead : ¬ s.busyWith .head) (he : e ∈ s.posting) :
    e.state ≠ .issued := fun hissued => hhead (h.busyWith_head he hissued)

/-- With the port not BUSY requests leave by their own release alone (R67). -/
theorem QueuesSound.removeRequests (h : s.QueuesSound) (hidle : ∀ aw e, s.port.state ≠ .busy aw e)
    {ws : List WaitEntry} (hws : ∀ w ∈ ws, ∃ v ∈ s.waiting, v.seq = w.seq ∧ v.initiator = w.initiator ∧ v.tag = w.tag) :
    (s.removeRequests ws).QueuesSound := by
  rw [removeRequests_eq]
  refine .of_idle hidle h.posting (h.waiting.remove hws) (fun e he => h.not_issued_entry (not_busyWith hidle _) he)
    fun w hw => ?_
  exact mt (h.request w (List.mem_filter.1 hw).1).1 (not_busyWith hidle _)

theorem QueuesSound.depart (h : s.QueuesSound) (hidle : ∀ aw e, s.port.state ≠ .busy aw e) (n : Nat)
    (rs : List Response) : (s.depart n rs).QueuesSound := by
  have hreleased := h.map_waiting (f := WaitEntry.release n) (WaitEntry.seq_release n) (WaitEntry.initiator_release n)
    (WaitEntry.tag_release n) (WaitEntry.isFence_release n) (WaitEntry.state_release n)
  have hremoved := hreleased.removeRequests (ws := s.waiting.filter (WaitEntry.isLastOf n)) hidle fun w hw =>
    ⟨w.release n, List.mem_map_of_mem (List.mem_filter.1 hw).1, by simp⟩
  exact hremoved.congr (by simp [State.depart]) (by simp [State.depart]) (by simp [State.depart])
    (by simp [State.depart]) (busyWith_congr (by simp [State.depart]))

theorem QueuesSound.headOutcome (h : s.QueuesSound) (hbusy : s.port.state = .busy aw expiry) (haw : aw.requester = .head)
    (hidle : ∀ aw e, p ≠ .busy aw e) (o : PortOutcome) : ((s.setPort p).headOutcome o).QueuesSound := by
  obtain ⟨e, rest, hq, -⟩ := h.head.2 ((busyWith_iff hbusy).2 haw)
  have hposting := h.posting
  have hbehind := h.behind
  rw [hq] at hposting hbehind
  have hrequests : ∀ w ∈ s.waiting, w.state ≠ .issued := fun w hw =>
    mt (h.request w hw).1 (by rw [busyWith_iff hbusy, haw]; exact Requester.noConfusion)
  rw [headOutcome_of_posting (s := s.setPort p) (e := e) (rest := rest) hq]
  refine QueuesSound.depart ?_ (by simpa using hidle) _ _
  refine .of_idle (by simpa using hidle) ?_ ?_ ?_ ?_
  · simpa using hposting.tail
  · simpa using h.waiting
  · simpa using hbehind
  · simpa using hrequests

theorem QueuesSound.concluded (h : s.QueuesSound) (hbusy : s.port.state = .busy aw expiry)
    (haw : aw.requester = .request w.seq) (hw : w ∈ s.waiting) (hidle : ∀ aw e, p ≠ .busy aw e) (o : PortOutcome) :
    ((s.setPort p).concluded w a o).QueuesSound := by
  have hhead : ¬ s.busyWith .head := by rw [busyWith_iff hbusy, haw]; exact Requester.noConfusion
  have hmarks := h.map_posting (f := fun e => if e.heldBehind = some w.seq then { e with heldBehind := none } else e)
    fun e he => by
      have hself := h.posting.becomes_self he
      split
      · exact ⟨rfl, rfl, rfl, id, hself.timer, hself.contributors, Iff.rfl⟩
      · exact hself
  refine .of_idle ?_ ?_ ?_ ?_ ?_
  · simpa [concluded_port] using hidle
  · simpa [concluded_posting, concluded_nextSeq] using hmarks.posting
  · rw [concluded_waiting, concluded_outTags, concluded_nextSeq]
    exact h.waiting.remove fun v hv => ⟨v, List.mem_singleton.1 hv ▸ hw, rfl, rfl, rfl⟩
  · rw [concluded_posting]
    exact fun e he => hmarks.not_issued_entry hhead he
  · rw [concluded_waiting]
    intro v hv hissued
    obtain ⟨hv, hne⟩ := List.mem_filter.1 hv
    have hseq := (busyWith_iff hbusy).1 ((h.request v hv).1 hissued)
    rw [haw, Requester.request.injEq] at hseq
    simp [hseq] at hne

/-- The request the port is BUSY with waits ISSUED, and makes an access (R55, R81). -/
theorem QueuesSound.exists_awaited (h : s.QueuesSound) (hbusy : s.busyWith (.request n)) :
    ∃ w a, w ∈ s.waiting ∧ w.seq = n ∧ w.state = .issued ∧ w.work = .access a ∧
      s.waiting.find? (fun v => v.seq == n) = some w := by
  obtain ⟨w, hw, rfl⟩ := h.awaited n hbusy
  have hissued := (h.request w hw).2 hbusy
  have hfind := find?_seq_eq_some hw fun v hv hseq => h.waiting.eq_of_seq hv hw hseq
  cases hwork : w.work with
  | access a => exact ⟨w, a, hw, rfl, hissued, hwork, hfind⟩
  | fence es rs =>
    have hfence : w.isFence = true := by simp only [WaitEntry.isFence, hwork]
    rw [h.waiting.fences w hw hfence] at hissued
    cases hissued

/-- An outcome that reaches no queue leaves nothing ISSUED (R87, R88). -/
theorem QueuesSound.setPort_idle (h : s.QueuesSound) (hidle : ∀ aw e, p ≠ .busy aw e) (hhead : ¬ s.busyWith .head)
    (hrequest : ∀ n, ¬ s.busyWith (.request n)) : (s.setPort p).QueuesSound :=
  .of_idle hidle h.posting h.waiting (fun _ he => h.not_issued_entry hhead he)
    fun w hw => mt (h.request w hw).1 (hrequest _)

theorem QueuesSound.deliver (h : s.QueuesSound) (hbusy : s.port.state = .busy aw expiry)
    (hidle : ∀ aw e, p ≠ .busy aw e) (o : PortOutcome) : ((s.setPort p).deliver aw.requester o).QueuesSound := by
  cases haw : aw.requester with
  | head => exact h.headOutcome hbusy haw hidle o
  | request n =>
    obtain ⟨w, a, hw, rfl, -, hwork, hfind⟩ := h.exists_awaited ((busyWith_iff hbusy).2 haw)
    change ((s.setPort p).requestOutcome w.seq o).QueuesSound
    rw [requestOutcome_of_access (s := s.setPort p) hfind hwork]
    exact (h.concluded hbusy haw hw hidle o).depart (by simpa [concluded_port] using hidle) _ _
  | orphan | none =>
    refine h.setPort_idle hidle ?_ fun n => ?_ <;> (rw [busyWith_iff hbusy, haw]; exact Requester.noConfusion)

/-! ### The laws of the queues at an issue -/

/-- The port is BUSY with the access presented, for the requester it names (R81). -/
theorem present_busyWith (s : State) (d : Direction) (address : Addr) (size : Size) (mask : Mask) (data : List Byte)
    (region : RegionIndex) (q r : Requester) :
    (s.present d address size mask data region q).busyWith r ↔ q = r :=
  busyWith_iff (s := s.present d address size mask data region q) rfl

theorem QueuesSound.issueHead {rest : List PostingEntry} (h : s.QueuesSound) (hready : s.port.state = .ready)
    (hq : s.posting = e :: rest) (hsealed : e.state = .sealed) : (s.issueHead e).QueuesSound := by
  have hidle : ∀ q, ¬ s.busyWith q := not_busyWith (by simp [hready])
  have hbusy : ∀ q, (s.issueHead e).busyWith q ↔ Requester.head = q := present_busyWith _ _ _ _ _ _ _ _
  have hposting : (s.issueHead e).posting = { e with state := .issued } :: rest := by simp [State.issueHead, hq]
  have hrest : ∀ f ∈ rest, f.state ≠ .issued := fun f hf => h.not_issued_entry (hidle _) (by simp [hq, hf])
  have hsound := h.posting
  rw [hq] at hsound
  have hnotOpen : e.isOpen = false := by simp [PostingEntry.isOpen, hsealed]
  have htimer := hsound.openTimer e List.mem_cons_self
  rw [hnotOpen] at htimer
  have hissued : PostingSound ({ e with state := .issued } :: rest) s.fabric.nextSeq :=
    ⟨hsound.atMost, List.pairwise_cons.2 (List.pairwise_cons.1 hsound.ordered),
      List.forall_mem_cons.2 (List.forall_mem_cons.1 hsound.numbered),
      List.pairwise_cons.2 ⟨fun f _ hopen => by simp [PostingEntry.isOpen] at hopen, hsound.oneOpen.of_cons⟩,
      List.forall_mem_cons.2 ⟨htimer, (List.forall_mem_cons.1 hsound.openTimer).2⟩,
      List.forall_mem_cons.2 ⟨fun hopen => by simp [PostingEntry.isOpen] at hopen,
        (List.forall_mem_cons.1 hsound.openMerge).2⟩,
      List.forall_mem_cons.2 (List.forall_mem_cons.1 hsound.contributors)⟩
  refine ⟨?_, h.waiting, ?_, ?_, fun w hw => ?_, fun n hn => ?_⟩
  · rw [hposting]; exact hissued
  · rw [hposting, hbusy]; exact ⟨fun _ => rfl, fun _ => ⟨_, rest, rfl, rfl⟩⟩
  · rw [hposting]; exact hrest
  · rw [hbusy]
    exact ⟨fun hissued => absurd ((h.request w hw).1 hissued) (hidle _), Requester.noConfusion⟩
  · rw [hbusy] at hn
    cases hn

/-- The mark ISSUED falls on one request, and keeps every one's place, sender and tag (R64). -/
theorem WaitingSound.markIssued (h : WaitingSound s.waiting s.fabric.outTags s.fabric.nextSeq) (n : Nat) :
    WaitingSound (s.markIssued n).waiting s.fabric.outTags s.fabric.nextSeq := by
  refine h.map (fun w => ?_) (fun w => ?_) (fun w => ?_) fun w => ?_
  all_goals
    split
    · cases hwork : w.work <;> simp [WaitEntry.isFence, hwork]
    · simp

theorem mem_markIssued {v : WaitEntry} (hv : v ∈ (s.markIssued n).waiting) :
    (v ∈ s.waiting ∧ v.seq ≠ n) ∨ (v ∈ s.waiting ∧ v.isFence = true) ∨
      ∃ w ∈ s.waiting, ∃ a, w.seq = n ∧ w.work = .access a ∧
        v = { w with state := .issued, work := .access { a with claimed := a.isDeviceRead } } := by
  obtain ⟨w, hw, rfl⟩ := List.mem_map.1 hv
  split
  next hseq =>
    split
    next a hwork => exact .inr (.inr ⟨w, hw, a, hseq, hwork, rfl⟩)
    next hwork => exact .inr (.inl ⟨hw, by simp only [WaitEntry.isFence, hwork]⟩)
  next hseq => exact .inl ⟨hw, hseq⟩

/-- The request itself, marked (R64). -/
theorem issued_mem_markIssued (hw : w ∈ s.waiting) (hwork : w.work = .access a) :
    { w with state := .issued, work := .access { a with claimed := a.isDeviceRead } } ∈ (s.markIssued w.seq).waiting :=
  List.mem_map.2 ⟨w, hw, by simp [hwork]⟩

theorem issueRequest_waiting (hwork : w.work = .access a) :
    (s.issueRequest w).waiting = (s.markIssued w.seq).waiting := by
  obtain ⟨d, address, size, mask, data, hissue⟩ := issueRequest_of_access (s := s) hwork
  rw [hissue, present_waiting]
  split
  · simp only [State.markIssued, claimPlace_waiting]
  · rfl

theorem issueRequest_busyWith (hwork : w.work = .access a) (q : Requester) :
    (s.issueRequest w).busyWith q ↔ Requester.request w.seq = q := by
  obtain ⟨d, address, size, mask, data, hissue⟩ := issueRequest_of_access (s := s) hwork
  rw [hissue]
  exact present_busyWith ..

theorem QueuesSound.issueRequest (h : s.QueuesSound) (hready : s.port.state = .ready) (hw : w ∈ s.waiting)
    (hwork : w.work = .access a) : (s.issueRequest w).QueuesSound := by
  have hidle : ∀ q, ¬ s.busyWith q := not_busyWith (by simp [hready])
  have hnone : ∀ v ∈ s.waiting, v.state ≠ .issued := fun v hv => mt (h.request v hv).1 (hidle _)
  refine ⟨?_, ?_, ?_, ?_, ?_, fun n hn => ?_⟩
  · simpa using h.posting
  · rw [issueRequest_waiting hwork, issueRequest_fabric]
    exact WaitingSound.markIssued h.waiting w.seq
  · rw [issueRequest_posting, issueRequest_busyWith hwork]
    exact ⟨fun hhead => absurd (h.head.1 hhead) (hidle _), Requester.noConfusion⟩
  · simpa using h.behind
  · rw [issueRequest_waiting hwork]
    intro v hv
    rw [issueRequest_busyWith hwork, Requester.request.injEq]
    rcases mem_markIssued hv with ⟨hv, hne⟩ | ⟨hv, hfence⟩ | ⟨x, -, b, hseq, -, rfl⟩
    · exact ⟨fun hstate => absurd hstate (hnone v hv), fun hseq => absurd hseq.symm hne⟩
    · refine ⟨fun hstate => absurd hstate (hnone v hv), fun hseq => ?_⟩
      rw [← h.waiting.eq_of_seq hw hv hseq] at hfence
      simp [WaitEntry.isFence, hwork] at hfence
    · exact ⟨fun _ => hseq.symm, fun _ => rfl⟩
  · rw [issueRequest_busyWith hwork, Requester.request.injEq] at hn
    rw [issueRequest_waiting hwork]
    exact ⟨_, issued_mem_markIssued hw hwork, hn⟩

theorem QueuesSound.arbitrate (h : s.QueuesSound) : s.arbitrate.QueuesSound := by
  rcases s.arbitrate_cases with hkept | ⟨hready, ⟨e, rest, hq, hdrain, hissue⟩ | ⟨w, a, hw, -, hwork, hissue⟩⟩
  · rwa [hkept]
  · rw [hissue]
    exact h.issueHead hready hq (drainEligible_sealed hq hdrain)
  · rw [hissue]
    exact h.issueRequest hready hw hwork

/-! ### Every move -/

theorem QueuesSound.mergeWrite (h : s.QueuesSound) (r : Request) (a : Addr) (size : Size) (data : List Byte) :
    (s.mergeWrite r a size data).QueuesSound :=
  h.map_posting fun e he => by
    split
    · exact h.posting.merge_becomes he r.initiator a size data _
    · exact h.posting.becomes_self he

theorem QueuesSound.overdueEntry (h : s.QueuesSound) (n : Nat) : (s.overdueEntry n).QueuesSound :=
  h.map_posting fun e he => by
    have hself := h.posting.becomes_self he
    split
    · exact ⟨rfl, rfl, rfl, id, hself.timer, hself.contributors, Iff.rfl⟩
    · exact hself

theorem QueuesSound.reservationExpired (h : s.QueuesSound) : s.reservationExpired.QueuesSound := by
  unfold State.reservationExpired
  split
  · exact h
  · exact h.congr rfl rfl rfl rfl fun _ => Iff.rfl

theorem Move.queues (h : s.Move t) (hs : s.QueuesSound) : t.QueuesSound := by
  cases h with
  | quiet hquiet =>
    exact hs.congr hquiet.posting hquiet.waiting hquiet.outTags hquiet.nextSeq (busyWith_congr hquiet.port)
  | sealing test => exact hs.map_posting fun e he => hs.posting.close_becomes test he
  | merge r a size data => exact hs.mergeWrite r a size data
  | overdue seq => exact hs.overdueEntry seq
  | create hroom halone => exact hs.createEntry hroom halone
  | number => exact hs.takeSeq
  | enter hfresh hroom => exact hs.enterWait _ hfresh hroom
  | linkReset => exact hs.dropLink
  | softReset => exact .dropAll s
  | powerOn => exact .powerOn s
  | outcome hbusy hidle o => exact hs.deliver hbusy hidle o
  | unstall hstalled =>
    have hnever : ∀ q, ¬ s.busyWith q := not_busyWith (by simp [hstalled])
    exact hs.setPort_idle (fun _ _ => PortState.noConfusion) (hnever _) fun _ => hnever _
  | decide => exact hs.arbitrate
  | reservation => exact hs.reservationExpired
  | respond | refuse | fault | popped | forget | retain | latch | unlock | unmark | lock | close | broken =>
    exact hs.congr rfl rfl rfl rfl fun _ => Iff.rfl

end State

open State

/-- Settles O57, move by move. -/
theorem queueLawsAreKept : Obligations.QueueLawsAreKept := fun _ _ =>
  step_keeps (P := QueuesSound) (fun _ _ _ hs => hs.congr rfl rfl rfl rfl fun _ => Iff.rfl) Move.queues

end Sys2Proof.Machine
end

section
/-! Why the lock law alone is not kept (R129): nothing in it, nor in the laws of the queues, keeps the sequence numbers
of the Posting Queue apart from those of the Wait List (R24), and a departure releases a number in every waiting set. -/

namespace Sys2Proof.Machine

open Sys2Proof

/-! ### A state that meets the laws and has one number twice -/

/-- The sealed entry with number 5, of line 40h. -/
def sharedEntry : PostingEntry :=
  { seq := 5, line := 0x40, mask := 0xFF, data := List.replicate 32 0, cls := .merge, region := 0, profile := 0,
    contributors := [2], state := .sealed, heldBehind := none, mergeExpiry := none, drainExpiry := none, overdue := false }

/-- The issued DEVICE write with number 5, to another line. -/
def sharedWrite : WaitEntry :=
  { seq := 5, initiator := 1, tag := 0, state := .issued
    work := .access { kind := .write, address := 0x100, size := .b8, cls := .device, region := 0, profile := 0,
                      captureMode := .none, data := List.replicate 8 0, waitsFor := [], claimed := false } }

/-- The access of the locked read that waits for the entry with number 5. -/
def sharedAccess : WaitAccess :=
  { kind := .lockedRead, address := 0x40, size := .b8, cls := .merge, region := 0, profile := 0, captureMode := .none,
    data := [], waitsFor := [5], claimed := false }

def sharedLockedRead : WaitEntry := { seq := 7, initiator := 2, tag := 0, state := .waiting, work := .access sharedAccess }

/-- The Memory Port is BUSY with the write; the lock of the locked read is PENDING. -/
def sharedNumber : State :=
  { State.reset with
    posting := [sharedEntry]
    waiting := [sharedWrite, sharedLockedRead]
    fabric :=
      { State.reset.fabric with
        link := .up, nextSeq := 8, outTags := vset (vset State.reset.fabric.outTags 1 [0]) 2 [0] }
    port :=
      { State.reset.port with
        state := .busy { number := 0, operation := .write, region := 0, requester := .request 5 } 10 }
    locks := State.reset.locks.put 0 (.pending 2 0x40 7)
    pending := [.completion 0x00 []] }

theorem sharedNumber_busyWith (q : Requester) : sharedNumber.busyWith q ↔ Requester.request 5 = q :=
  State.busyWith_iff (s := sharedNumber) rfl

theorem sharedNumber_posting : PostingSound sharedNumber.posting sharedNumber.fabric.nextSeq := by
  constructor <;> simp [sharedNumber, sharedEntry, PostingEntry.isOpen]

theorem sharedNumber_waiting :
    WaitingSound sharedNumber.waiting sharedNumber.fabric.outTags sharedNumber.fabric.nextSeq where
  ordered := by decide
  numbered := by decide
  fences := by decide
  tags := by decide
  nodup := by decide
  atMost := by decide

theorem sharedNumber_queues : sharedNumber.QueuesSound where
  posting := sharedNumber_posting
  waiting := sharedNumber_waiting
  head := by
    rw [sharedNumber_busyWith]
    simp [sharedNumber, sharedEntry]
  behind := by decide
  request := by
    simp only [sharedNumber_busyWith]
    decide
  awaited := by
    simp only [sharedNumber_busyWith]
    rintro _ ⟨⟩
    decide

theorem sharedNumber_locks : sharedNumber.locks.Sound where
  owners := by decide
  lines := fun j k l hj hk => by
    have hslot : ∀ j, (sharedNumber.locks.slots.get j).line ≠ none → j = 0 := by decide
    exact (hslot j (by simp [hj])).trans (hslot k (by simp [hk])).symm
  markers := by decide

theorem sharedNumber_locksExclusive : sharedNumber.LocksExclusive := by
  have hslots : ∀ k, sharedNumber.locks.slots.get k = .free ∨ sharedNumber.locks.slots.get k = .pending 2 0x40 7 := by
    decide
  intro k
  rcases hslots k with hslot | hslot <;> rw [hslot]
  · exact trivial
  · refine ⟨⟨sharedLockedRead, by decide, _, rfl, rfl, rfl, rfl, by decide, ?_, WaitState.noConfusion⟩, by decide⟩
    simp [sharedNumber, sharedEntry, sharedAccess]

/-- The state after the completion of the write (R65, R67). -/
def sharedNumberAfter : State := { sharedNumber with pending := [] }.completion 0 true []

theorem step_sharedNumber : step sharedNumber = .next sharedNumberAfter := rfl

/-- The locked read no longer waits for the entry, which is still queued. -/
theorem sharedNumberAfter_shape :
    sharedNumberAfter.locks.slots.get 0 = .pending 2 0x40 7 ∧
      (∃ e ∈ sharedNumberAfter.posting, e.line = 0x40) ∧
      sharedNumberAfter.waiting =
        [{ sharedLockedRead with work := .access { sharedAccess with waitsFor := [] } }] := by decide

theorem sharedNumberAfter_not_locksExclusive : ¬ sharedNumberAfter.LocksExclusive := by
  obtain ⟨hslot, ⟨e, he, hline⟩, hwaiting⟩ := sharedNumberAfter_shape
  intro h
  have hsound := h 0
  rw [hslot] at hsound
  obtain ⟨⟨w, hw, a, -, -, hwork, -, -, hentries, -⟩, -⟩ := hsound
  rw [hwaiting, List.mem_singleton] at hw
  subst hw
  cases hwork
  exact List.not_mem_nil ((hentries e he hline).2 AccessClass.noConfusion)

/-- Refutes O59: an entry and an issued request share a number, which the laws of the queues allow; when the request ends,
the locked read behind the entry is released from the entry too. -/
theorem not_lockExclusionIsKept : ¬ Obligations.LockExclusionIsKept := fun h =>
  sharedNumberAfter_not_locksExclusive
    (h sharedNumber sharedNumberAfter sharedNumber_queues sharedNumber_locks sharedNumber_locksExclusive
      step_sharedNumber)

end Sys2Proof.Machine
end

section
/-! What the Issue Arbiter grants while a line is locked (R129). -/

namespace Sys2Proof.Machine

open Sys2Proof

namespace State

variable {s : State} {k : Fin 2} {o : Initiator} {line : Addr}

/-- The lock of this slot shuts the line to everybody but its owner: from the issue of the locked read on (R129). -/
def Shuts (s : State) (k : Fin 2) (o : Initiator) (line : Addr) : Prop :=
  (∃ e, s.locks.slots.get k = .held o line e) ∨ (∃ n, s.locks.slots.get k = .closing o line n) ∨
    ∃ n, s.locks.slots.get k = .pending o line n ∧ ∃ w ∈ s.waiting, w.seq = n ∧ w.state = .issued

/-- Nothing is posted for a line that is shut, and only its owner's requests to it wait (R129). -/
theorem Shuts.exclusive (h : s.Shuts k o line) (hlocks : s.LocksExclusive)
    (hunique : ∀ v w, v ∈ s.waiting → w ∈ s.waiting → v.seq = w.seq → v = w) :
    s.nothingPosted line ∧ s.onlyOwnerWaits o line := by
  have hsound := hlocks k
  rcases h with ⟨e, hslot⟩ | ⟨n, hslot⟩ | ⟨n, hslot, v, hv, hvn, hissued⟩ <;> rw [hslot] at hsound
  · exact hsound
  · exact hsound.2
  · obtain ⟨⟨w, hw, a, hwn, -, -, -, -, -, hexclusive⟩, -⟩ := hsound
    obtain rfl := hunique v w hv hw (hvn.trans hwn.symm)
    exact hexclusive hissued

theorem isTo_of_access {w : WaitEntry} {a : WaitAccess} (hwork : w.work = .access a) (hline : lineOf a.address = line) :
    w.isTo line = true := by
  simp [WaitEntry.isTo, hwork, hline]

end State

open State

/-- Settles O60: what is granted is queued or waits, and the lock law says what of that is to the line. -/
theorem lockedLinesAreReachedByTheOwnerAlone : Obligations.LockedLinesAreReachedByTheOwnerAlone := by
  intro s k o line hlocks hshut hunique
  obtain ⟨hposted, howner⟩ := Shuts.exclusive hshut hlocks hunique
  refine ⟨fun e hchoice => ?_, fun w a hchoice hwork hline => ?_⟩
  · obtain ⟨-, rest, hq⟩ := head_of_choice hchoice
    exact hposted e (by simp [hq])
  · exact howner w (request_of_choice hchoice).1 (isTo_of_access hwork hline)

end Sys2Proof.Machine
end

section
/-! The laws of the Capture Table (R100, R101, R165), move by move. -/

namespace Sys2Proof.Machine

open Sys2Proof

/-! ### What a key records -/

theorem CaptureKey.recordHalf_cases (word a : Addr) (low high : Option Tag) (t : Tag) :
    (CaptureKey.split word low high).recordHalf a t = .split word low (some t) ∨
      (CaptureKey.split word low high).recordHalf a t = .split word (some t) high := by
  cases hhalf : inHighHalf a <;> simp [recordHalf, hhalf]

/-- Recording a tag in a half adds that tag alone (R112). -/
theorem Capture.recordsTag_recordHalf {c : Capture} {a : Addr} {t u : Tag} {i : Initiator} {n : Nat}
    (h : { c with key := c.key.recordHalf a t, expiry := n }.recordsTag i u = true) :
    c.recordsTag i u = true ∨ c.initiator = i ∧ t = u := by
  revert h
  unfold recordsTag
  cases c.key with
  | replay => exact .inl
  | split word low high =>
    rcases CaptureKey.recordHalf_cases word a low high t with hkey | hkey <;> rw [hkey] <;>
      simp only [Bool.and_eq_true, Bool.or_eq_true, decide_eq_true_eq, Option.some.injEq] <;> tauto

theorem Capture.splitFor_recordHalf (c : Capture) (a : Addr) (t : Tag) (n : Nat) (i : Initiator) (word : Addr) :
    { c with key := c.key.recordHalf a t, expiry := n }.splitFor i word = c.splitFor i word := by
  unfold splitFor
  cases c.key with
  | replay => rfl
  | split w low high => rcases CaptureKey.recordHalf_cases w a low high t with hkey | hkey <;> rw [hkey]

/-- The key a DEVICE read makes: for a split read the half of its word, else its own (R102, R103, R104). -/
theorem captureKey_cases (t : Tag) (a : WaitAccess) :
    (a.isSplitRead = true ∧ (State.captureKey t a = .split (wordOf a.address) none (some t) ∨
      State.captureKey t a = .split (wordOf a.address) (some t) none)) ∨
    State.captureKey t a = .replay t a.address a.size := by
  unfold State.captureKey
  split
  next hsplit => exact .inl ⟨hsplit, by split <;> simp⟩
  next => exact .inr rfl

/-- The capture a DEVICE read makes records its own tag alone (R102, R103, R104). -/
theorem Capture.recordsTag_captureKey {c : Capture} {a : WaitAccess} {t u : Tag} {i : Initiator}
    (hkey : c.key = State.captureKey t a) (h : c.recordsTag i u = true) : c.initiator = i ∧ t = u := by
  unfold recordsTag at h
  rw [hkey] at h
  rcases captureKey_cases t a with ⟨-, hsplit | hsplit⟩ | hreplay
  · simpa [hsplit] using h
  · simpa [hsplit] using h
  · simpa [hreplay] using h

/-- It is a SPLIT capture only of a split read, for that read's word. -/
theorem Capture.splitFor_captureKey {c : Capture} {a : WaitAccess} {t : Tag} {i : Initiator} {word : Addr}
    (hkey : c.key = State.captureKey t a) (h : c.splitFor i word = true) :
    c.initiator = i ∧ a.isSplitRead = true ∧ wordOf a.address = word := by
  unfold splitFor at h
  rw [hkey] at h
  rcases captureKey_cases t a with ⟨hread, hsplit | hsplit⟩ | hreplay
  · simpa [hsplit, hread] using h
  · simpa [hsplit, hread] using h
  · simp [hreplay] at h

namespace State

variable {s t : State} {aw : Awaited} {expiry : Nat} {p : PortState} {w : WaitEntry} {a : WaitAccess} {n : Nat}

/-! ### The laws where the requests stay -/

/-- A change of captures that keeps claims, requests and the word of every SPLIT capture. -/
theorem CapturesSound.of_splits (h : s.CapturesSound)
    (hsplit : ∀ k d, t.holdsCapture k d → ∃ c, s.holdsCapture k c ∧ ∀ i word, d.splitFor i word = c.splitFor i word)
    (hclaim : ∀ k, (t.captures.get k).claim = (s.captures.get k).claim) (hwaiting : t.waiting = s.waiting)
    (hbusy : ∀ q, t.busyWith q ↔ s.busyWith q)
    (htags : ∀ j k c d i u, t.holdsCapture j c → t.holdsCapture k d → c.recordsTag i u = true →
      d.recordsTag i u = true → j = k)
    (houtstanding : ∀ k c, t.holdsCapture k c → ∀ w ∈ s.waiting, c.recordsTag w.initiator w.tag = false) :
    t.CapturesSound where
  tags := htags
  splits := fun j k c d i word hc hd hci hdi => by
    obtain ⟨x, hx, hxi⟩ := hsplit j c hc
    obtain ⟨y, hy, hyi⟩ := hsplit k d hd
    exact h.splits j k x y i word hx hy (hxi i word ▸ hci) (hyi i word ▸ hdi)
  outstanding := by rw [hwaiting]; exact houtstanding
  claims := by
    rw [hwaiting]
    intro w hw a hwork hissued hclaimed hread k d hd hdi
    obtain ⟨c, hc, hci⟩ := hsplit k d hd
    rw [Place.claimedBy, hclaim]
    exact h.claims w hw a hwork hissued hclaimed hread k c hc (hci _ _ ▸ hdi)
  claimed := by simpa only [hclaim] using h.claimed
  claimant := by simpa only [hclaim, hwaiting, hbusy] using h.claimant

/-- A change that leaves of each capture what it records, or removes it. -/
theorem CapturesSound.of_kept (h : s.CapturesSound)
    (hkept : ∀ k d, t.holdsCapture k d → ∃ c, s.holdsCapture k c ∧ d.initiator = c.initiator ∧ d.key = c.key)
    (hclaim : ∀ k, (t.captures.get k).claim = (s.captures.get k).claim) (hwaiting : t.waiting = s.waiting)
    (hbusy : ∀ q, t.busyWith q ↔ s.busyWith q) : t.CapturesSound := by
  have hrecords : ∀ k d, t.holdsCapture k d → ∃ c, s.holdsCapture k c ∧
      (∀ i word, d.splitFor i word = c.splitFor i word) ∧ ∀ i u, d.recordsTag i u = c.recordsTag i u := by
    intro k d hd
    obtain ⟨c, hc, hinitiator, hkey⟩ := hkept k d hd
    exact ⟨c, hc, fun i word => by simp only [Capture.splitFor, hinitiator, hkey],
      fun i u => by simp only [Capture.recordsTag, hinitiator, hkey]⟩
  refine h.of_splits (fun k d hd => ?_) hclaim hwaiting hbusy (fun j k c d i u hc hd hci hdi => ?_) fun k d hd w hw => ?_
  · obtain ⟨c, hc, hsplit, -⟩ := hrecords k d hd
    exact ⟨c, hc, hsplit⟩
  · obtain ⟨x, hx, -, hxi⟩ := hrecords j c hc
    obtain ⟨y, hy, -, hyi⟩ := hrecords k d hd
    exact h.tags j k x y i u hx hy (hxi i u ▸ hci) (hyi i u ▸ hdi)
  · obtain ⟨c, hc, -, hrec⟩ := hrecords k d hd
    rw [hrec]
    exact h.outstanding k c hc w hw

theorem CapturesSound.congr (h : s.CapturesSound) (hcaptures : t.captures = s.captures) (hwaiting : t.waiting = s.waiting)
    (hbusy : ∀ q, t.busyWith q ↔ s.busyWith q) : t.CapturesSound :=
  h.of_kept (fun k d hd => ⟨d, by rwa [holdsCapture, ← hcaptures], rfl, rfl⟩) (fun k => by rw [hcaptures]) hwaiting hbusy

theorem holdsCapture_putCapture {k j : Fin 8} {c d : Capture} :
    (s.putCapture k c).holdsCapture j d ↔ if j = k then c = d else s.holdsCapture j d := by
  simp only [holdsCapture, putCapture, get_vset]
  split <;> simp

theorem claim_putCapture (s : State) (k : Fin 8) (c : Capture) (j : Fin 8) :
    ((s.putCapture k c).captures.get j).claim = (s.captures.get j).claim := by
  simp only [putCapture, get_vset]
  split
  next hj => rw [hj]
  next => rfl

/-- Captures are removed (R105, R118). -/
theorem CapturesSound.forget (h : s.CapturesSound) {v : Vector Place 8}
    (hkept : ∀ k, (v.get k).claim = (s.captures.get k).claim ∧
      ((v.get k).capture = none ∨ (v.get k).capture = (s.captures.get k).capture)) :
    { s with captures := v }.CapturesSound := by
  refine h.of_kept (fun k d hd => ⟨d, ?_, rfl, rfl⟩) (fun k => (hkept k).1) rfl fun _ => Iff.rfl
  rcases (hkept k).2 with hnone | hsame
  · exact absurd (hnone.symm.trans hd) nofun
  · exact hsame.symm.trans hd

/-- A retention timer restarts (R107). -/
theorem CapturesSound.retain (h : s.CapturesSound) {k : Fin 8} {c : Capture} (hold : s.holdsCapture k c) (n : Nat) :
    (s.putCapture k { c with expiry := n }).CapturesSound := by
  refine h.of_kept (fun j d hd => ?_) (s.claim_putCapture k _) rfl fun _ => Iff.rfl
  rw [holdsCapture_putCapture] at hd
  split at hd
  next hj => subst hj; subst hd; exact ⟨c, hold, rfl, rfl⟩
  next => exact ⟨d, hd, rfl, rfl⟩

/-- A latch records the tag of the read it answers, and no other capture does (R112). -/
theorem CapturesSound.latch (h : s.CapturesSound) (hwaiting : WaitingSound s.waiting s.fabric.outTags s.fabric.nextSeq)
    {k : Fin 8} {c : Capture} {i : Initiator} {u : Tag} {a : Addr} (hold : s.holdsCapture k c)
    (hsplit : c.splitFor i (wordOf a) = true) (hfresh : u ∉ s.fabric.outTags.get i) (n : Nat) :
    ((s.dropCaptures fun d => d.recordsTag i u).putCapture k
      { c with key := c.key.recordHalf a u, expiry := n }).CapturesSound := by
  have hi : c.initiator = i := by
    simp only [Capture.splitFor, Bool.and_eq_true, decide_eq_true_eq] at hsplit
    exact hsplit.1
  -- the capture in k holds what it held and the new tag; every other one has been left, without the new tag
  have hold' : ∀ j d, ((s.dropCaptures fun d => d.recordsTag i u).putCapture k
      { c with key := c.key.recordHalf a u, expiry := n }).holdsCapture j d →
      (j = k ∧ { c with key := c.key.recordHalf a u, expiry := n } = d) ∨
        (j ≠ k ∧ s.holdsCapture j d ∧ d.recordsTag i u = false) := fun j d hd => by
    rw [holdsCapture_putCapture] at hd
    split at hd
    next hj => exact .inl ⟨hj, hd⟩
    next hj => exact .inr ⟨hj, holdsCapture_dropCaptures.1 hd⟩
  -- no other capture records what the latch records now
  have hother : ∀ j d i' u', j ≠ k → s.holdsCapture j d → d.recordsTag i u = false → d.recordsTag i' u' = true →
      { c with key := c.key.recordHalf a u, expiry := n }.recordsTag i' u' = true → False := by
    intro j d i' u' hj hd hdu hdi' hci'
    rcases Capture.recordsTag_recordHalf hci' with hc | ⟨rfl, rfl⟩
    · exact hj (h.tags j k d c i' u' hd hold hdi' hc)
    · rw [hi, hdu] at hdi'
      exact Bool.noConfusion hdi'
  refine h.of_splits (fun j d hd => ?_) (fun j => ?_) rfl (fun _ => Iff.rfl) (fun j l d e i' u' hd he hdi hei => ?_)
    fun j d hd w hw => ?_
  · rcases hold' j d hd with ⟨rfl, rfl⟩ | ⟨-, hd, -⟩
    · exact ⟨c, hold, c.splitFor_recordHalf a u n⟩
    · exact ⟨d, hd, fun _ _ => rfl⟩
  · rw [claim_putCapture, dropCaptures_captures, get_vmap, Place.claim_drop]
  · rcases hold' j d hd with ⟨rfl, rfl⟩ | ⟨hj, hdj, hdu⟩ <;> rcases hold' l e he with ⟨rfl, rfl⟩ | ⟨hl, hel, heu⟩
    · rfl
    · exact (hother l e i' u' hl hel heu hei hdi).elim
    · exact (hother j d i' u' hj hdj hdu hdi hei).elim
    · exact h.tags j l d e i' u' hdj hel hdi hei
  · rcases hold' j d hd with ⟨rfl, rfl⟩ | ⟨-, hd, -⟩
    · rw [← Bool.not_eq_true]
      intro hrecords
      rcases Capture.recordsTag_recordHalf hrecords with hc | ⟨hinitiator, rfl⟩
      · rw [h.outstanding j c hold w hw] at hc
        exact Bool.noConfusion hc
      · exact hfresh (hi ▸ hinitiator ▸ hwaiting.tag_mem hw)
    · exact h.outstanding j d hd w hw

/-! ### The laws where requests come and go -/

/-- A request joins, that no capture records and that has claimed nothing (R54, R101, R106). -/
theorem CapturesSound.enterWait (h : s.CapturesSound) {r : Request} {work : WaitWork}
    (hunrecorded : ∀ k c, s.holdsCapture k c → c.recordsTag r.initiator r.tag = false) :
    (s.enterWait r work).CapturesSound where
  tags := h.tags
  splits := h.splits
  outstanding := fun k c hc => by
    simp only [enterWait_waiting, List.mem_append, List.mem_singleton]
    rintro w (hw | rfl)
    · exact h.outstanding k c hc w hw
    · exact hunrecorded k c hc
  claims := by
    simp only [enterWait_waiting, List.mem_append, List.mem_singleton]
    rintro w (hw | rfl) a hwork hissued
    · exact h.claims w hw a hwork hissued
    · cases hissued
  claimed := h.claimed
  claimant := fun k n hn =>
    let ⟨hbusy, w, hw, hclaim⟩ := h.claimant k n hn
    ⟨hbusy, w, List.mem_append_left _ hw, hclaim⟩

/-- An empty table (R120, R121, R122). -/
theorem CapturesSound.of_free (hfree : ∀ k, s.captures.get k = Place.free) : s.CapturesSound := by
  have hold : ∀ k c, ¬ s.holdsCapture k c := fun k c => by simp [holdsCapture, hfree, Place.free]
  have hclaim : ∀ k n, (s.captures.get k).claim ≠ some n := fun k n => by simp [hfree, Place.free]
  exact ⟨fun j _ c _ _ _ hc => absurd hc (hold j c), fun j _ c _ _ _ hc => absurd hc (hold j c),
    fun k c hc => absurd hc (hold k c), fun _ _ _ _ _ _ _ k c hc => absurd hc (hold k c),
    fun j _ n hn => absurd hn (hclaim j n), fun k n hn => absurd hn (hclaim k n)⟩

/-- With nothing ISSUED and nothing claimed, the captures alone are left to speak of. -/
theorem CapturesSound.of_idle (hissued : ∀ w ∈ s.waiting, w.state ≠ .issued)
    (hclaim : ∀ k n, (s.captures.get k).claim ≠ some n)
    (htags : ∀ j k c d i u, s.holdsCapture j c → s.holdsCapture k d → c.recordsTag i u = true →
      d.recordsTag i u = true → j = k)
    (hsplits : ∀ j k c d i word, s.holdsCapture j c → s.holdsCapture k d → c.splitFor i word = true →
      d.splitFor i word = true → j = k)
    (houtstanding : ∀ k c, s.holdsCapture k c → ∀ w ∈ s.waiting, c.recordsTag w.initiator w.tag = false) :
    s.CapturesSound :=
  ⟨htags, hsplits, houtstanding, fun w hw _ _ h => absurd h (hissued w hw), fun j _ n hn => absurd hn (hclaim j n),
    fun k n hn => absurd hn (hclaim k n)⟩

/-- Where the port is BUSY for no request, nothing is claimed (R101). -/
theorem CapturesSound.unclaimed (h : s.CapturesSound) (hbusy : ∀ n, ¬ s.busyWith (.request n)) (k : Fin 8) (n : Nat) :
    (s.captures.get k).claim ≠ some n := fun hn => hbusy n (h.claimant k n hn).1

/-- Requests leave, or are released, with nothing ISSUED and nothing claimed. -/
theorem CapturesSound.fewer (h : s.CapturesSound) (hcaptures : t.captures = s.captures)
    (hclaim : ∀ k n, (s.captures.get k).claim ≠ some n) (hissued : ∀ w ∈ t.waiting, w.state ≠ .issued)
    (hwaiting : ∀ w ∈ t.waiting, ∃ v ∈ s.waiting, v.initiator = w.initiator ∧ v.tag = w.tag) : t.CapturesSound := by
  have hold : ∀ k c, t.holdsCapture k c ↔ s.holdsCapture k c := fun k c => by rw [holdsCapture, hcaptures]; rfl
  refine .of_idle hissued (by rwa [hcaptures]) (by simpa only [hold] using h.tags) (by simpa only [hold] using h.splits)
    fun k c hc w hw => ?_
  obtain ⟨v, hv, hinitiator, htag⟩ := hwaiting w hw
  rw [← hinitiator, ← htag]
  exact h.outstanding k c ((hold k c).1 hc) v hv

/-- A departure releases and lets go; whoever stays was there (R47, R67). -/
theorem mem_depart_waiting {rs : List Response} (hw : w ∈ (s.depart n rs).waiting) :
    ∃ v ∈ s.waiting, v.initiator = w.initiator ∧ v.tag = w.tag ∧ v.state = w.state := by
  rw [depart_waiting] at hw
  obtain ⟨v, hv, rfl⟩ := List.mem_map.1 (List.mem_filter.1 hw).1
  exact ⟨v, hv, by simp⟩

theorem CapturesSound.depart (h : s.CapturesSound) (hclaim : ∀ k n, (s.captures.get k).claim ≠ some n)
    (hissued : ∀ w ∈ s.waiting, w.state ≠ .issued) (n : Nat) (rs : List Response) : (s.depart n rs).CapturesSound :=
  h.fewer (by simp) hclaim
    (fun w hw =>
      let ⟨v, hv, _, _, hstate⟩ := mem_depart_waiting hw
      hstate ▸ hissued v hv)
    fun w hw =>
      let ⟨v, hv, hinitiator, htag, _⟩ := mem_depart_waiting hw
      ⟨v, hv, hinitiator, htag⟩

/-! ### Outcomes -/

/-- The request the port is BUSY with is the only one that may have a claim (R101). -/
theorem CapturesSound.claim_eq (h : s.CapturesSound) (hbusy : s.busyWith (.request n)) {k : Fin 8} {m : Nat}
    (hm : (s.captures.get k).claim = some m) : m = n := by
  obtain ⟨aw, expiry, hport, hrequester⟩ := hbusy
  have hclaimant := (busyWith_iff hport).1 (h.claimant k m hm).1
  rw [hrequester, Requester.request.injEq] at hclaimant
  exact hclaimant.symm

/-- What the capture made at the outcome of a DEVICE read may be: the read's own (R102, R103, R104). -/
def MadeBy (w : WaitEntry) (a : WaitAccess) (c : Capture) : Prop :=
  c.initiator = w.initiator ∧ c.key = captureKey w.tag a

/-- Where the request has a claim the outcome fills that place; elsewhere it changes nothing (R102, R103, R104). -/
theorem fillPlace_cases (s : State) (w : WaitEntry) (a : WaitAccess) (result : CaptureResult) (data : List Byte) :
    (s.fillPlace w a result data = s ∧ ∀ k, (s.captures.get k).claim ≠ some w.seq) ∨
      ∃ k c, (s.captures.get k).claim = some w.seq ∧ MadeBy w a c ∧
        (s.fillPlace w a result data).captures = vset s.captures k { capture := some c, claim := none } := by
  unfold fillPlace
  split
  next k hfind => exact .inr ⟨k, _, by simpa [Place.claimedBy] using vfind_some hfind, ⟨rfl, rfl⟩, rfl⟩
  next hfind => exact .inl ⟨rfl, fun k => by simpa [Place.claimedBy] using vfind_none.1 hfind k⟩

theorem mem_concluded {v : WaitEntry} {o : PortOutcome} (hv : v ∈ (s.concluded w a o).waiting) :
    v ∈ s.waiting ∧ v.seq ≠ w.seq := by
  rw [concluded_waiting] at hv
  obtain ⟨hv, hne⟩ := List.mem_filter.1 hv
  exact ⟨hv, fun hseq => by simp [hseq] at hne⟩

theorem concluded_captures (s : State) (w : WaitEntry) (a : WaitAccess) (o : PortOutcome) :
    (s.concluded w a o).captures =
      if a.claimed = true then (s.fillPlace w a o.captureResult o.data).captures else s.captures := by
  unfold State.concluded
  split <;> simp [*]

/-- The table after the outcome of an issued request: unchanged, and nothing was claimed, or its claimed place has become
its capture (R101, R102). -/
theorem CapturesSound.concluded_cases (h : s.CapturesSound) (hq : s.QueuesSound) (hbusy : s.busyWith (.request w.seq))
    (hw : w ∈ s.waiting) (hwork : w.work = .access a) (o : PortOutcome) :
    ((s.concluded w a o).captures = s.captures ∧ ∀ k n, (s.captures.get k).claim ≠ some n) ∨
      ∃ k c, a.claimed = true ∧ (s.captures.get k).claim = some w.seq ∧ MadeBy w a c ∧
        (s.concluded w a o).captures = vset s.captures k { capture := some c, claim := none } := by
  rw [concluded_captures]
  split
  next hclaimed =>
    rcases s.fillPlace_cases w a o.captureResult o.data with ⟨hsame, hnone⟩ | ⟨k, c, hclaim, hmade, hset⟩
    · exact .inl ⟨by rw [hsame], fun k n hn => hnone k (h.claim_eq hbusy hn ▸ hn)⟩
    · exact .inr ⟨k, c, hclaimed, hclaim, hmade, hset⟩
  next hclaimed =>
    refine .inl ⟨rfl, fun k n hn => hclaimed ?_⟩
    obtain ⟨-, v, hv, b, hseq, hvwork, hvclaimed⟩ := h.claimant k n hn
    obtain rfl := hq.waiting.eq_of_seq hv hw (hseq.trans (h.claim_eq hbusy hn))
    cases hvwork.symm.trans hwork
    exact hvclaimed

/-- A claimed place takes its capture, and the request leaves (R101, R102). -/
theorem CapturesSound.fill (h : s.CapturesSound) (hq : s.QueuesSound) (hw : w ∈ s.waiting) (hissued : w.state = .issued)
    (hwork : w.work = .access a) {k : Fin 8} {c : Capture} (hclaimed : a.claimed = true)
    (hclaim : (s.captures.get k).claim = some w.seq) (hmade : MadeBy w a c)
    (hset : t.captures = vset s.captures k { capture := some c, claim := none })
    (hwaiting : ∀ v ∈ t.waiting, v ∈ s.waiting ∧ v.seq ≠ w.seq) (hidle : ∀ v ∈ t.waiting, v.state ≠ .issued)
    (hnone : ∀ j n, (t.captures.get j).claim ≠ some n) : t.CapturesSound := by
  obtain ⟨hinitiator, hkey⟩ := hmade
  -- the capture in k is the new one; every other one was held before
  have hold : ∀ j d, t.holdsCapture j d → (j = k ∧ c = d) ∨ (j ≠ k ∧ s.holdsCapture j d) := fun j d hd => by
    simp only [holdsCapture, hset, get_vset] at hd
    split at hd
    next hj => exact .inl ⟨hj, Option.some.inj hd⟩
    next hj => exact .inr ⟨hj, hd⟩
  have htag : ∀ j d i u, s.holdsCapture j d → d.recordsTag i u = true → c.recordsTag i u = true → False := by
    intro j d i u hd hdi hci
    obtain ⟨rfl, rfl⟩ := Capture.recordsTag_captureKey hkey hci
    rw [hinitiator, h.outstanding j d hd w hw] at hdi
    exact Bool.noConfusion hdi
  have hsplit : ∀ j d i word, j ≠ k → s.holdsCapture j d → d.splitFor i word = true → c.splitFor i word = true →
      False := by
    intro j d i word hj hd hdi hci
    obtain ⟨rfl, hread, rfl⟩ := Capture.splitFor_captureKey hkey hci
    rw [hinitiator] at hdi
    have hplace := h.claims w hw a hwork hissued hclaimed hread j d hd hdi
    exact hj (h.claimed j k w.seq (by simpa [Place.claimedBy] using hplace) hclaim)
  refine .of_idle hidle hnone (fun j l d e i u hd he hdi hei => ?_) (fun j l d e i word hd he hdi hei => ?_)
    fun j d hd v hv => ?_
  · rcases hold j d hd with ⟨rfl, rfl⟩ | ⟨hj, hdj⟩ <;> rcases hold l e he with ⟨rfl, rfl⟩ | ⟨hl, hel⟩
    · rfl
    · exact (htag l e i u hel hei hdi).elim
    · exact (htag j d i u hdj hdi hei).elim
    · exact h.tags j l d e i u hdj hel hdi hei
  · rcases hold j d hd with ⟨rfl, rfl⟩ | ⟨hj, hdj⟩ <;> rcases hold l e he with ⟨rfl, rfl⟩ | ⟨hl, hel⟩
    · rfl
    · exact (hsplit l e i word hl hel hei hdi).elim
    · exact (hsplit j d i word hj hdj hdi hei).elim
    · exact h.splits j l d e i word hdj hel hdi hei
  · obtain ⟨hv, hne⟩ := hwaiting v hv
    rcases hold j d hd with ⟨rfl, rfl⟩ | ⟨-, hdj⟩
    · rw [← Bool.not_eq_true]
      intro hrecords
      obtain ⟨hvi, hvt⟩ := Capture.recordsTag_captureKey hkey hrecords
      exact hne (congrArg _ (hq.waiting.eq_of_tag hv hw (hvi.symm.trans hinitiator) hvt.symm))
    · exact h.outstanding j d hdj v hv

theorem fillPlace_setPort (s : State) (p : PortState) (w : WaitEntry) (a : WaitAccess) (result : CaptureResult)
    (data : List Byte) : (s.setPort p).fillPlace w a result data = (s.fillPlace w a result data).setPort p := by
  unfold fillPlace
  rw [setPort_captures]
  split <;> rfl

theorem concluded_setPort_captures (s : State) (p : PortState) (w : WaitEntry) (a : WaitAccess) (o : PortOutcome) :
    ((s.setPort p).concluded w a o).captures = (s.concluded w a o).captures := by
  simp only [concluded_captures, fillPlace_setPort, setPort_captures]

/-- The law at the outcome of an issued request, which leaves nothing claimed (R101, R102). -/
theorem CapturesSound.concluded (h : s.CapturesSound) (hq : s.QueuesSound) (hbusy : s.busyWith (.request w.seq))
    (hw : w ∈ s.waiting) (hissued : w.state = .issued) (hwork : w.work = .access a) (o : PortOutcome)
    (hidle : ∀ v ∈ ((s.setPort p).concluded w a o).waiting, v.state ≠ .issued) :
    ((s.setPort p).concluded w a o).CapturesSound ∧
      ∀ k n, (((s.setPort p).concluded w a o).captures.get k).claim ≠ some n := by
  have hstays : ∀ v ∈ ((s.setPort p).concluded w a o).waiting, v ∈ s.waiting ∧ v.seq ≠ w.seq := fun v hv =>
    mem_concluded (s := s.setPort p) hv
  rcases h.concluded_cases hq hbusy hw hwork o with ⟨hsame, hnone⟩ | ⟨k, c, hclaimed, hclaim, hmade, hset⟩
  · rw [concluded_setPort_captures, hsame]
    exact ⟨h.fewer ((concluded_setPort_captures ..).trans hsame) hnone hidle
      fun v hv => ⟨v, (hstays v hv).1, rfl, rfl⟩, hnone⟩
  · rw [← concluded_setPort_captures s p] at hset
    have hnone : ∀ j n, (((s.setPort p).concluded w a o).captures.get j).claim ≠ some n := fun j n hn => by
      rw [hset, get_vset] at hn
      split at hn
      · cases hn
      next hj => exact hj (h.claimed j k n hn (h.claim_eq hbusy hn ▸ hclaim))
    exact ⟨h.fill hq hw hissued hwork hclaimed hclaim hmade hset hstays hidle hnone, hnone⟩

theorem QueuesSound.not_issued_request (h : s.QueuesSound) (hidle : ∀ aw e, s.port.state ≠ .busy aw e) :
    ∀ w ∈ s.waiting, w.state ≠ .issued := fun w hw => mt (h.request w hw).1 (not_busyWith hidle _)

theorem CapturesSound.deliver (h : s.CapturesSound) (hq : s.QueuesSound) (hport : s.port.state = .busy aw expiry)
    (hidle : ∀ aw e, p ≠ .busy aw e) (o : PortOutcome) : ((s.setPort p).deliver aw.requester o).CapturesSound := by
  have hafter := (hq.deliver hport hidle o).not_issued_request (by simpa using hidle)
  -- an outcome for somebody else than a request finds nothing claimed
  have hnone : (∀ n, aw.requester ≠ .request n) → ∀ k n, (s.captures.get k).claim ≠ some n := fun hrequester =>
    h.unclaimed fun n => by rw [busyWith_iff hport]; exact hrequester n
  cases haw : aw.requester with
  | head =>
    rw [haw] at hafter hnone
    refine h.fewer (by simp [State.deliver]) (hnone fun _ => Requester.noConfusion) hafter fun w hw => ?_
    obtain ⟨e, rest, hposting, -⟩ := hq.head.2 ((busyWith_iff hport).2 haw)
    change w ∈ ((s.setPort p).headOutcome o).waiting at hw
    rw [headOutcome_of_posting (s := s.setPort p) (e := e) (rest := rest) hposting] at hw
    obtain ⟨v, hv, hinitiator, htag, -⟩ := mem_depart_waiting hw
    exact ⟨v, by simpa using hv, hinitiator, htag⟩
  | request n =>
    have hbusy := (busyWith_iff hport).2 haw
    obtain ⟨w, a, hw, rfl, hissued, hwork, hfind⟩ := hq.exists_awaited hbusy
    have hquiet := (hq.concluded (a := a) hport haw hw hidle o).not_issued_request
      (by simpa [concluded_port] using hidle)
    obtain ⟨hsound, hclaim⟩ := h.concluded hq hbusy hw hissued hwork o hquiet
    change ((s.setPort p).requestOutcome w.seq o).CapturesSound
    rw [requestOutcome_of_access (s := s.setPort p) hfind hwork]
    exact hsound.depart hclaim hquiet _ _
  | orphan | none =>
    rw [haw] at hafter hnone
    exact h.fewer rfl (hnone fun _ => Requester.noConfusion) hafter fun w hw => ⟨w, hw, rfl, rfl⟩

/-! ### Issues -/

theorem CapturesSound.issueHead (h : s.CapturesSound) (hq : s.QueuesSound) (hready : s.port.state = .ready)
    (e : PostingEntry) : (s.issueHead e).CapturesSound :=
  h.fewer rfl (h.unclaimed fun _ => not_busyWith (by simp [hready]) _) (hq.not_issued_request (by simp [hready]))
    fun w hw => ⟨w, hw, rfl, rfl⟩

/-- The place replaced holds a SPLIT capture of the initiator for the word (R101). -/
theorem holds_replacementPlace {i : Initiator} {k : Fin 8} (h : s.replacementPlace i a = some k) :
    ∃ c, s.holdsCapture k c ∧ c.splitFor i (wordOf a.address) = true := by
  unfold replacementPlace at h
  split at h
  · have hholds := vfind_some h
    unfold Place.holds at hholds
    split at hholds
    next c hc => exact ⟨c, hc, hholds⟩
    next => cases hholds
  · cases h

/-- A split read that replaces nothing has no SPLIT capture for its word (R101). -/
theorem splitFor_of_replacementPlace_none {i : Initiator} (h : s.replacementPlace i a = none)
    (hread : a.isSplitRead = true) {k : Fin 8} {c : Capture} (hc : s.holdsCapture k c) :
    c.splitFor i (wordOf a.address) = false := by
  rw [replacementPlace, if_pos hread, vfind_none] at h
  have hk := h k
  unfold holdsCapture at hc
  simpa only [Place.holds, hc] using hk

/-- What an issue does to the table: it claims nothing, or one place for a DEVICE read, which is the replacement place where
there is one (R64, R101). -/
theorem issueRequest_captures (s : State) (hwork : w.work = .access a) :
    ((s.issueRequest w).captures = s.captures ∧ (a.isDeviceRead = true → s.replacementPlace w.initiator a = none)) ∨
      ∃ k, (s.issueRequest w).captures = vset s.captures k { s.captures.get k with claim := some w.seq } ∧
        a.isDeviceRead = true ∧ ∀ j, s.replacementPlace w.initiator a = some j → j = k := by
  obtain ⟨d, address, size, mask, data, hissue⟩ := issueRequest_of_access (s := s) hwork
  rw [hissue, present_captures, markIssued_captures]
  split
  next hread =>
    unfold claimPlace placeToClaim
    split
    next k hplace =>
      refine .inr ⟨k, rfl, hread, fun j hj => ?_⟩
      simpa [hj] using hplace
    next hplace =>
      refine .inl ⟨rfl, fun _ => ?_⟩
      split at hplace
      · cases hplace
      · assumption
  next hread => exact .inl ⟨rfl, fun h => absurd h hread⟩

theorem holdsCapture_issueRequest (hwork : w.work = .access a) (k : Fin 8) (c : Capture) :
    (s.issueRequest w).holdsCapture k c ↔ s.holdsCapture k c := by
  rcases s.issueRequest_captures hwork with ⟨hsame, -⟩ | ⟨j, hset, -⟩
  · rw [holdsCapture, hsame]; rfl
  · rw [holdsCapture, hset, get_vset]
    split
    next hj => rw [hj]; rfl
    next => rfl

/-- With nothing claimed before, the issue leaves at most one claim, the request's own (R101). -/
theorem claim_issueRequest (hwork : w.work = .access a) (hnone : ∀ k n, (s.captures.get k).claim ≠ some n) :
    ∃ l, ∀ k n, ((s.issueRequest w).captures.get k).claim = some n → k = l ∧ w.seq = n ∧ a.isDeviceRead = true := by
  rcases s.issueRequest_captures hwork with ⟨hsame, -⟩ | ⟨l, hset, hread, -⟩
  · exact ⟨0, fun k n hn => absurd (hsame ▸ hn) (hnone k n)⟩
  · refine ⟨l, fun k n hn => ?_⟩
    rw [hset, get_vset] at hn
    split at hn
    next hk => exact ⟨hk, Option.some.inj hn, hread⟩
    next => exact absurd hn (hnone k n)

/-- An issued split read claims the place of its initiator's SPLIT capture for its word (R101). -/
theorem CapturesSound.claimedBy_issueRequest (h : s.CapturesSound) (hwork : w.work = .access a)
    (hdevice : a.isDeviceRead = true) (hread : a.isSplitRead = true) {k : Fin 8} {c : Capture} (hc : s.holdsCapture k c)
    (hsplit : c.splitFor w.initiator (wordOf a.address) = true) :
    ((s.issueRequest w).captures.get k).claimedBy w.seq = true := by
  have hsome : s.replacementPlace w.initiator a ≠ none := fun hnone =>
    Bool.eq_false_iff.1 (splitFor_of_replacementPlace_none hnone hread hc) hsplit
  rcases s.issueRequest_captures hwork with ⟨-, hreplaced⟩ | ⟨j, hset, -, hreplaced⟩
  · exact absurd (hreplaced hdevice) hsome
  · obtain ⟨l, hplace⟩ := Option.ne_none_iff_exists'.1 hsome
    obtain ⟨d, hd, hdsplit⟩ := holds_replacementPlace hplace
    obtain rfl := hreplaced l hplace
    obtain rfl := h.splits k l c d _ _ hc hd hsplit hdsplit
    simp [hset, Place.claimedBy]

theorem CapturesSound.issueRequest (h : s.CapturesSound) (hq : s.QueuesSound) (hready : s.port.state = .ready)
    (hw : w ∈ s.waiting) (hwork : w.work = .access a) : (s.issueRequest w).CapturesSound := by
  have hidle : ∀ aw e, s.port.state ≠ .busy aw e := by simp [hready]
  have hquiet := hq.not_issued_request hidle
  obtain ⟨l, hclaim⟩ := claim_issueRequest hwork (h.unclaimed fun n => not_busyWith hidle (.request n))
  refine ⟨by simpa only [holdsCapture_issueRequest hwork] using h.tags,
    by simpa only [holdsCapture_issueRequest hwork] using h.splits, fun k c hc v hv => ?_,
    fun v hv b hb hissued hclaimed hread k c hc hsplit => ?_,
    fun j k n hj hk => (hclaim j n hj).1.trans (hclaim k n hk).1.symm, fun k n hn => ?_⟩
  · rw [issueRequest_waiting hwork] at hv
    rw [holdsCapture_issueRequest hwork] at hc
    rcases mem_markIssued hv with ⟨hv, -⟩ | ⟨hv, -⟩ | ⟨x, hx, b, -, -, rfl⟩
    · exact h.outstanding k c hc v hv
    · exact h.outstanding k c hc v hv
    · exact h.outstanding k c hc x hx
  · rw [issueRequest_waiting hwork] at hv
    rw [holdsCapture_issueRequest hwork] at hc
    rcases mem_markIssued hv with ⟨hv, -⟩ | ⟨hv, -⟩ | ⟨x, hx, b', hseq, hb', rfl⟩
    · exact absurd hissued (hquiet v hv)
    · exact absurd hissued (hquiet v hv)
    · obtain rfl := hq.waiting.eq_of_seq hx hw hseq
      cases hb'.symm.trans hwork
      cases hb
      exact h.claimedBy_issueRequest hwork hclaimed hread hc hsplit
  · obtain ⟨-, rfl, hdevice⟩ := hclaim k n hn
    have hissued := issued_mem_markIssued hw hwork
    rw [issueRequest_busyWith hwork, issueRequest_waiting hwork]
    exact ⟨rfl, _, hissued, { a with claimed := a.isDeviceRead }, rfl, rfl, hdevice⟩

theorem CapturesSound.arbitrate (h : s.CapturesSound) (hq : s.QueuesSound) : s.arbitrate.CapturesSound := by
  rcases s.arbitrate_cases with hkept | ⟨hready, ⟨e, rest, -, -, hissue⟩ | ⟨w, a, hw, -, hwork, hissue⟩⟩
  · rwa [hkept]
  · rw [hissue]
    exact h.issueHead hq hready e
  · rw [hissue]
    exact h.issueRequest hq hready hw hwork

/-! ### Every move -/

theorem Move.captures (h : s.Move t) (hq : s.QueuesSound) (hs : s.CapturesSound) : t.CapturesSound := by
  cases h with
  | quiet hquiet => exact hs.congr hquiet.captures hquiet.waiting (busyWith_congr hquiet.port)
  | forget v hkept => exact hs.forget hkept
  | retain hold expiry => exact hs.retain hold expiry
  | latch hold hsplit hfresh expiry => exact hs.latch hq.waiting hold hsplit hfresh expiry
  | enter hfresh hroom hunrecorded => exact hs.enterWait hunrecorded
  | linkReset | softReset => exact .of_free (by simp)
  | powerOn => exact .of_free fun k => by simp [State.powerOn, State.reset]
  | outcome hbusy hidle o => exact hs.deliver hq hbusy hidle o
  | unstall hstalled =>
    have hnever : ∀ q, ¬ s.busyWith q := not_busyWith (by simp [hstalled])
    exact hs.fewer rfl (hs.unclaimed fun _ => hnever _) (hq.not_issued_request (by simp [hstalled]))
      fun w hw => ⟨w, hw, rfl, rfl⟩
  | decide => exact hs.arbitrate hq
  | reservation =>
    unfold State.reservationExpired
    split
    · exact hs
    · exact hs.congr rfl rfl fun _ => Iff.rfl
  | create => exact hs.congr (by simp) (by simp) (busyWith_congr (by simp))
  | respond | refuse | fault | popped | sealing | merge | overdue | number | unlock | unmark | lock | close | broken =>
    exact hs.congr rfl rfl fun _ => Iff.rfl

end State

open State

/-- Settles O58, with the laws of the queues, move by move. -/
theorem captureLawIsKept : Obligations.CaptureLawIsKept := by
  intro s t hq hs hstep
  have hkept : ∀ {u v : State}, u.Move v → u.QueuesSound ∧ u.CapturesSound → v.QueuesSound ∧ v.CapturesSound :=
    fun hmove ⟨hq, hs⟩ => ⟨hmove.queues hq, hmove.captures hq hs⟩
  exact (step_keeps (P := fun s => s.QueuesSound ∧ s.CapturesSound)
    (fun _ _ _ ⟨hq, hs⟩ => ⟨hq.congr rfl rfl rfl rfl fun _ => Iff.rfl, hs.congr rfl rfl fun _ => Iff.rfl⟩) hkept ⟨hq, hs⟩
    hstep).2

end Sys2Proof.Machine
end

section
/-! Arrivals on the fabric link (R159, R160, R164, R167): the discarding of frames, the checks before the kind step, and
the kind steps of READ, WRITE and FENCE. One lemma for each branch of a kind step, then each statement by its
branches. -/

namespace Sys2Proof.Machine

open Sys2Proof

namespace State

variable {s : State} {r : Request} {c : Classification} {a : Addr} {size : Size} {data : List Byte}

/-! ### The link and the form of a frame -/

theorem arriveMalformed_of_up (h : s.fabric.link = .up) (i : Initiator) (t : Tag) :
    s.arriveMalformed i t = s.respond (bareResponse i t .malformed) := by
  simp only [arriveMalformed, h]
  rfl

theorem arriveMalformed_of_inReset (h : s.fabric.link = .inReset) (i : Initiator) (t : Tag) :
    s.arriveMalformed i t = s := by
  simp only [arriveMalformed, h]

theorem arrive_of_inReset (h : s.fabric.link = .inReset) (r : Request) : s.arrive r = s := by
  unfold arrive
  split
  · exact arriveMalformed_of_inReset h _ _
  · simp only [h]

theorem arriveFrame_of_inReset (h : s.fabric.link = .inReset) (header : BitVec 64) (data : List Byte) :
    s.arriveFrame header data = s := by
  unfold arriveFrame
  split
  · exact arrive_of_inReset h _
  · exact arriveMalformed_of_inReset h _ _

theorem arriveFrame_of_decodes {header : BitVec 64} (h : decodeRequest header data = some r) :
    s.arriveFrame header data = s.arrive r := by
  simp only [arriveFrame, h]

theorem arriveFrame_of_malformed {header : BitVec 64} (h : decodeRequest header data = none) :
    s.arriveFrame header data = s.arriveMalformed (headerInitiator header) (headerTag header) := by
  simp only [arriveFrame, h]

theorem linkUp_of_inReset (hlink : s.fabric.link = .inReset) (hreset : s.pins.resetLow = false) :
    s.linkUp = judge { s with fabric := { s.fabric with link := .up } } := by
  simp only [linkUp, hlink, hreset, Bool.false_eq_true, if_false]

theorem linkUp_of_kept (h : s.fabric.link = .up ∨ s.pins.resetLow = true) : s.linkUp = s := by
  unfold linkUp
  split
  · rfl
  next hlink => rw [if_pos (h.resolve_left (by simp [hlink]))]

/-! ### The checks before the kind step -/

theorem preCheck_of_blocked (h : c.cls = .blocked) (nonPosted : Bool) :
    s.preCheck r c a nonPosted =
      some (s.respond { bareResponse r.initiator r.tag .declined with reason := some .blockedRegion }) := by
  rw [preCheck, if_pos h]
  rfl

theorem preCheck_of_limit (h : c.cls ≠ .blocked) (hlimit : 4 ≤ (s.fabric.outTags.get r.initiator).length) :
    s.preCheck r c a true = some (s.respond (bareResponse r.initiator r.tag .limit)) := by
  have hcount : (true && decide (4 ≤ s.outstandingCount r.initiator)) = true := decide_eq_true hlimit
  rw [preCheck, if_neg h, if_pos hcount]
  rfl

theorem preCheck_of_shutOut {nonPosted : Bool} (h : c.cls ≠ .blocked)
    (hroom : nonPosted = true → (s.fabric.outTags.get r.initiator).length < 4) (hshut : s.ShutOut r.initiator (lineOf a)) :
    s.preCheck r c a nonPosted = some (s.refuseRetry r (.lineLocked (lineOf a))) := by
  have hcount : ¬ (nonPosted && decide (4 ≤ s.outstandingCount r.initiator)) = true := fun h =>
    let ⟨hnonPosted, hlimit⟩ := Bool.and_eq_true_iff.1 h
    Nat.not_le.2 (hroom hnonPosted) (of_decide_eq_true hlimit)
  rw [preCheck, if_neg h, if_neg hcount, if_pos ((s.shutOut_iff _ _).2 hshut)]

/-- Every request with an address goes through the checks; a posted write is not counted (R164, R166). -/
theorem accept_of_target {hint : Hint} (h : r.kind.target = some (a, hint))
    (hc : s.regions.active.classify a hint = c) :
    ∃ nonPosted u, s.accept r = (s.preCheck r c a nonPosted).getD u ∧
      (c.cls ≠ .blocked → nonPosted = !r.kind.posts c.cls) := by
  subst hc
  obtain ⟨i, t, k⟩ := r
  cases k with
  | read | lockedRead | lockedWrite =>
    cases h
    exact ⟨true, _, rfl, fun _ => rfl⟩
  | write =>
    cases h
    refine ⟨_, _, rfl, fun hblocked => ?_⟩
    cases hcls : (s.regions.active.classify a hint).cls with
    | blocked => exact absurd hcls hblocked
    | merge | posted | device => rfl
  | lockDrop | fence | discard => cases h

theorem accept_fence_of_limit (h : r.kind = .fence) (hlimit : 4 ≤ (s.fabric.outTags.get r.initiator).length) :
    s.accept r = s.respond (bareResponse r.initiator r.tag .limit) := by
  simp only [accept, h]
  exact if_pos hlimit

/-! ### READ -/

theorem youngestFor_eq (s : State) (line : Addr) :
    s.youngestFor line = (s.posting.filter fun e => e.line == line).getLast? := rfl

/-- The Posting Queue answers exactly where R35 says so, with the bytes of the youngest entry. -/
theorem forwardData_eq_some {e : PostingEntry} (h : s.QueueAnswers a size e) :
    s.forwardData a size = some ((e.data.drop (a.toNat % 32)).take size.bytes) := by
  obtain ⟨hyoungest, hcovers, hwrites⟩ := h
  have hnone : (s.waiting.any fun w => w.isWriteTo (lineOf a)) = false := by simpa using hwrites
  simp only [forwardData, youngestFor_eq, hyoungest, hcovers, hnone, Bool.not_false, Bool.and_self, if_true]
  rfl

theorem forwardData_eq_none (h : ∀ e, ¬ s.QueueAnswers a size e) : s.forwardData a size = none := by
  unfold forwardData
  split
  · rfl
  next e hyoungest =>
    refine if_neg fun hanswers => h e ?_
    obtain ⟨hcovers, hwrites⟩ := Bool.and_eq_true_iff.1 hanswers
    exact ⟨hyoungest, hcovers, by simpa using hwrites⟩

theorem kindRead_of_forward {bytes : List Byte} (hclass : c.cls = .merge)
    (h : ∀ i, (s.dropOwnLatches i a size).forwardData a size = some bytes) :
    s.kindRead r c a size =
      (if size = .b8 ∨ size = .b32 then s.dropOwnLatches r.initiator a size else s).respond
        (r.answerData .queue bytes) := by
  have hdata : (if size = .b8 ∨ size = .b32 then s.dropOwnLatches r.initiator a size else s).forwardData a size =
      some bytes := by
    split <;> exact h r.initiator
  simp only [kindRead, hclass, if_true, hdata]

theorem kindRead_of_taken
    (h : c.cls = .merge → ∀ i, (s.dropOwnLatches i a size).forwardData a size = none) :
    s.kindRead r c a size =
      (if size = .b8 ∨ size = .b32 then s.dropOwnLatches r.initiator a size else s).takeAccess r .read c a size [] := by
  have hdata : (if c.cls = .merge then
      (if size = .b8 ∨ size = .b32 then s.dropOwnLatches r.initiator a size else s).forwardData a size else none) =
      none := by
    split
    next hmerge => split <;> exact h hmerge r.initiator
    next => rfl
  simp only [kindRead, hdata]

theorem waitsForSet_read {cls : AccessClass} (h : cls ≠ .blocked) :
    s.waitsForSet .read cls a size =
      if cls = .device then []
      else (s.posting.filter fun e => e.line == lineOf a && overlaps e.mask (byteMask a size)).map (·.seq) :=
  waitsForSet_lockedWrite h

/-! ### WRITE -/

theorem kindWrite_of_owner (h : s.OwnsLine r.initiator (lineOf a)) :
    s.kindWrite r c a size data = s.respond (r.answer .protocol) := by
  rw [kindWrite, if_pos ((s.ownsLine_iff' _ _).2 h)]

theorem kindWrite_of_device (h : ¬ s.OwnsLine r.initiator (lineOf a)) (hclass : c.cls = .device) :
    s.kindWrite r c a size data = (s.dropLatches a size).takeAccess r .write c a size data := by
  rw [kindWrite, if_neg (by simp [(s.not_ownsLine_iff _ _).2 h]), if_pos hclass]

theorem kindWrite_of_posted (h : ¬ s.OwnsLine r.initiator (lineOf a)) (hclass : c.cls ≠ .device) :
    s.kindWrite r c a size data = s.kindPosted r c a size data := by
  rw [kindWrite, if_neg (by simp [(s.not_ownsLine_iff _ _).2 h]), if_neg hclass]

/-- A request of class DEVICE seals every OPEN entry and waits for none by number (R32, R36). -/
theorem takeAccess_of_device (hclass : c.cls = .device) (kind : AccessKind) :
    s.takeAccess r kind c a size data =
      { s with
        posting := closeWhere (fun _ => true) s.posting
        waiting := s.waiting ++ [s.waitEntry r kind c a size data []]
        fabric := s.tagTaken r } := by
  have hset : s.waitsForSet kind c.cls a size = [] := by simp only [hclass, waitsForSet]
  have htest : (fun e : PostingEntry => c.cls == .device || e.line == lineOf a) = fun _ => true := by
    funext e
    rw [hclass]
    rfl
  rw [takeAccess_eq, hset, htest]

theorem merges_iff {line : Addr} :
    s.merges c.cls line = true ↔ c.cls = .merge ∧ ∃ e ∈ s.posting, e.isOpen = true ∧ e.line = line := by
  simp [merges]

theorem merges_eq_false {line : Addr}
    (h : c.cls = .posted ∨ c.cls = .merge ∧ ∀ e ∈ s.posting, e.isOpen = true → e.line ≠ line) :
    s.merges c.cls line = false := by
  rw [← Bool.not_eq_true, merges_iff]
  rintro ⟨hmerge, e, he, hopened, hline⟩
  rcases h with hposted | ⟨-, hnone⟩
  · simp [hmerge] at hposted
  · exact hnone e he hopened hline

theorem kindPosted_of_merges (h : s.merges c.cls (lineOf a) = true) :
    s.kindPosted r c a size data = ((s.dropLatches a size).mergeWrite r a size data).respond (r.answer .writeTaken) := by
  rw [kindPosted, if_pos h]

theorem kindPosted_of_full (h : s.merges c.cls (lineOf a) = false) (hfull : 16 ≤ s.posting.length) :
    s.kindPosted r c a size data = s.refuseRetry r .queueFull := by
  rw [kindPosted, if_neg (by simp [h]), if_pos hfull]

theorem kindPosted_of_reserved (h : s.merges c.cls (lineOf a) = false) (hroom : s.posting.length < 16)
    (hreserved : s.ReservedFrom r.initiator .queueEntry) : s.kindPosted r c a size data = s.refuseRetry r .reserved := by
  rw [kindPosted, if_neg (by simp [h]), if_neg (Nat.not_le.2 hroom), if_pos ((s.reservedAgainst_iff _ _).2 hreserved)]

theorem kindPosted_of_creates (h : s.merges c.cls (lineOf a) = false) (hroom : s.posting.length < 16)
    (hreserved : ¬ s.ReservedFrom r.initiator .queueEntry) :
    s.kindPosted r c a size data =
      ((s.dropLatches a size).createEntry r c a size data).respond (r.answer .writeTaken) := by
  rw [kindPosted, if_neg (by simp [h]), if_neg (Nat.not_le.2 hroom),
    if_neg (by simp [(s.not_reservedAgainst_iff _ _).2 hreserved])]

/-! ### FENCE -/

/-- Where its initiator contributed to nothing, a FENCE seals nothing. -/
theorem sealWhere_of_no_entries {i : Initiator} (h : s.fenceEntries i = []) :
    (s.sealWhere fun e => e.contributors.contains i) = s := by
  have hnone : ∀ e ∈ s.posting, e.contributors.contains i = false := by
    simpa [fenceEntries, List.filter_eq_nil_iff] using h
  have hclose : closeWhere (fun e => e.contributors.contains i) s.posting = s.posting :=
    (List.map_congr_left fun e he => if_neg (Bool.eq_false_iff.1 (hnone e he))).trans (List.map_id _)
  rw [sealWhere, hclose]

theorem kindFence_of_empty (hentries : s.fenceEntries r.initiator = []) (hrequests : s.fenceRequests r.initiator = []) :
    s.kindFence r = s.takeSeq.respond (r.answer .done) := by
  simp only [kindFence, hentries, hrequests, sealWhere_of_no_entries hentries]
  rfl

theorem kindFence_of_waits (h : s.fenceEntries r.initiator ≠ [] ∨ s.fenceRequests r.initiator ≠ []) :
    s.kindFence r =
      (s.sealWhere fun e => e.contributors.contains r.initiator).enterWait r
        (.fence (s.fenceEntries r.initiator) (s.fenceRequests r.initiator)) := by
  have hwaits : ¬ ((s.fenceEntries r.initiator).isEmpty && (s.fenceRequests r.initiator).isEmpty) = true := by
    simp only [Bool.and_eq_true, List.isEmpty_iff, not_and_or]
    exact h
  exact if_neg hwaits

theorem accept_fence (h : r.kind = .fence) (hroom : (s.fabric.outTags.get r.initiator).length < 4) :
    s.accept r = s.kindFence r := by
  simp only [accept, h]
  exact if_neg (Nat.not_le.2 hroom)

end State

open State

/-- Settles O20: what each row does with a frame in IN_RESET, and the two outcomes of LINK_UP. -/
theorem framesAreDiscardedUntilLinkUp : Obligations.FramesAreDiscardedUntilLinkUp := by
  refine ⟨fun s hlink => ⟨fun r => ?_, fun header data => ⟨?_, ?_⟩⟩, fun s => ⟨fun hlink hreset => ?_, fun hkept => ?_⟩⟩
  · rw [exec_command, arrive_of_inReset hlink]
  · exact congrArg Host.Outcome.next (arriveFrame_of_inReset hlink header data)
  · change execFrameDiscardedInReset header data s = .next s
    simp only [execFrameDiscardedInReset, hlink]
  · exact congrArg Host.Outcome.next (linkUp_of_inReset hlink hreset)
  · exact congrArg Host.Outcome.next (linkUp_of_kept hkept)

/-- Settles O21: the form is checked before the tag, whichever row the frame comes under. -/
theorem requestsAreCheckedForFormAndTag : Obligations.RequestsAreCheckedForFormAndTag := by
  refine ⟨fun s hup => ⟨fun header data hnone => ?_, fun r hform => ?_, fun header data r hdecodes => ?_⟩,
    fun s r hup hform htag => ?_⟩
  · refine congrArg Host.Outcome.next ?_
    rw [arriveFrame_of_malformed hnone, arriveMalformed_of_up hup]
  · rw [exec_command, arrive, hform]
    exact congrArg Host.Outcome.next (arriveMalformed_of_up hup _ _)
  · rw [exec_command, ← arriveFrame_of_decodes hdecodes]
    refine ⟨rfl, ?_⟩
    change execFrameDiscardedInReset header data s = _
    simp only [execFrameDiscardedInReset, hup]
  · rw [exec_command]
    refine congrArg Host.Outcome.next ?_
    simp only [arrive, hform, hup, htag, if_true, Bool.not_true, Bool.false_eq_true, if_false]
    rfl

/-- Settles O26: the checks one after another, for a FENCE its count alone. -/
theorem arrivalsAreCheckedInOrder : Obligations.ArrivalsAreCheckedInOrder := by
  intro s r hreceives hunanswered
  refine ⟨fun hfence hlimit => ?_, fun a hint htarget => ?_⟩
  · exact s.exec_settled hreceives hunanswered (accept_fence_of_limit hfence hlimit) rfl rfl
  · obtain ⟨nonPosted, u, haccept, hposts⟩ := accept_of_target (s := s.lookedUp r) htarget rfl
    change (s.regions.active.classify a hint).cls ≠ .blocked →
      nonPosted = !r.kind.posts (s.regions.active.classify a hint).cls at hposts
    have hrefused : ∀ {v : State}, (s.lookedUp r).preCheck r (s.regions.active.classify a hint) a nonPosted = some v →
        (s.lookedUp r).accept r = v := fun hv => haccept.trans (congrArg (Option.getD · u) hv)
    refine ⟨fun hblocked => ?_, fun hclass hposted hlimit => ?_, fun hclass hroom hshut => ?_⟩
    · exact s.exec_settled hreceives hunanswered (hrefused (preCheck_of_blocked hblocked _)) rfl rfl
    · obtain rfl : nonPosted = true := by rw [hposts hclass, hposted]; rfl
      exact s.exec_settled hreceives hunanswered (hrefused (preCheck_of_limit hclass hlimit)) rfl rfl
    · have hcount : nonPosted = true → (s.fabric.outTags.get r.initiator).length < 4 := fun hnonPosted =>
        hroom.resolve_left (by rw [hposts hclass] at hnonPosted; simpa using hnonPosted)
      exact s.exec_settled hreceives hunanswered (hrefused (preCheck_of_shutOut hclass hcount hshut)) rfl rfl

/-- Settles O27: the Posting Queue answers the read, or it is taken. -/
theorem readsAreForwardedOrTaken : Obligations.ReadsAreForwardedOrTaken := by
  intro s i t a size hint r c u hreceives hunanswered hclass hroom hopen
  have haccept : (s.lookedUp r).accept r = (s.lookedUp r).kindRead r c a size :=
    (s.lookedUp r).accept_read hclass hroom hopen
  have hsame : u.fabric = s.fabric ∧ u.posting = s.posting ∧ u.waiting = s.waiting := by
    simp only [u]
    split <;> exact ⟨rfl, rfl, rfl⟩
  obtain ⟨hfabric, hposting, hwaiting⟩ := hsame
  refine ⟨fun e hmerge hanswers => ?_, fun hnot => ?_⟩
  · have hforward := haccept.trans (kindRead_of_forward hmerge fun _ => forwardData_eq_some hanswers)
    exact s.exec_settled hreceives hunanswered hforward (by rw [← hfabric]; rfl)
      (by rw [respond_posting, hposting])
  · have htaken := haccept.trans (kindRead_of_taken fun hmerge _ =>
      forwardData_eq_none (hnot.resolve_left (not_not.2 hmerge)))
    refine (exec_takeAccess hreceives hunanswered htaken hfabric hposting).trans ?_
    rw [takeAccess_eq, waitsForSet_read hclass]
    simp only [tagTaken, waitEntry]
    rw [hfabric, hposting, hwaiting]

/-- Settles O30: the check of R126 comes before the taking. -/
theorem deviceWritesAreTaken : Obligations.DeviceWritesAreTaken := by
  intro s i t a size hint data r c hreceives hclass hopen
  have hunanswered : s.Unanswered r := s.unanswered_of_not_read fun _ _ _ => RequestKind.noConfusion
  have haccept (hroom : c.cls = .device → (s.fabric.outTags.get i).length < 4) :
      (s.lookedUp r).accept r = (s.lookedUp r).kindWrite r c a size data :=
    (s.lookedUp r).accept_write hclass hroom hopen
  refine ⟨fun hdevice hroom hfree => ?_, fun hroom howner => ?_⟩
  · have htaken := (haccept fun _ => hroom).trans (kindWrite_of_device hfree hdevice)
    refine (exec_takeAccess hreceives hunanswered htaken rfl rfl).trans ?_
    rw [takeAccess_of_device hdevice]
    rfl
  · exact s.exec_settled hreceives hunanswered ((haccept hroom).trans (kindWrite_of_owner howner)) rfl rfl

/-- Settles O34: an empty fence set is answered, another one waits; both give out a sequence number. -/
theorem fencesWaitForEarlierWork : Obligations.FencesWaitForEarlierWork := by
  intro s i t r entries requests hreceives hroom
  have hunanswered : s.Unanswered r := s.unanswered_of_not_read fun _ _ _ => RequestKind.noConfusion
  have haccept : (s.lookedUp r).accept r = (s.lookedUp r).kindFence r := accept_fence rfl hroom
  refine ⟨fun hentries hrequests => ?_, fun hwaits => ?_⟩
  · have hempty : (s.lookedUp r).kindFence r = _ := kindFence_of_empty hentries hrequests
    exact s.exec_taken hreceives hunanswered (haccept.trans hempty) rfl rfl
  · have hentered : (s.lookedUp r).kindFence r = _ := kindFence_of_waits hwaits
    exact s.exec_taken hreceives hunanswered (haccept.trans hentered) rfl (length_closeWhere ..)

/-- The write that is neither to a line shut out nor to one its sender owns comes to the posted write's kind step. -/
theorem State.accept_posted {s : State} {i : Initiator} {t : Tag} {a : Addr} {size : Size} {hint : Hint}
    {data : List Byte} {c : Classification} (hc : s.regions.active.classify a hint = c)
    (hclass : c.cls = .merge ∨ c.cls = .posted) (hopen : ¬ s.ShutOut i (lineOf a)) (hfree : ¬ s.OwnsLine i (lineOf a)) :
    s.accept { initiator := i, tag := t, kind := .write a size hint data } =
      s.kindPosted { initiator := i, tag := t, kind := .write a size hint data } c a size data := by
  subst hc
  have hdevice : (s.regions.active.classify a hint).cls ≠ .device := by rcases hclass with h | h <;> simp [h]
  have hblocked : (s.regions.active.classify a hint).cls ≠ .blocked := by rcases hclass with h | h <;> simp [h]
  rw [s.accept_write hblocked (fun h => absurd h hdevice) hopen, kindWrite_of_posted hfree hdevice]

/-- A merge does not touch the state of the head (R27). -/
theorem State.mergeWrite_head (s : State) (r : Request) (a : Addr) (size : Size) (data : List Byte) :
    (s.mergeWrite r a size data).posting.head?.map (·.state) = s.posting.head?.map (·.state) := by
  rw [mergeWrite, List.head?_map, Option.map_map]
  refine congrArg (Option.map · _) (funext fun e => ?_)
  simp only [Function.comp_apply]
  split <;> rfl

/-- Settles O28: the entry that is OPEN for the line takes the write. -/
theorem postedWritesMerge : Obligations.PostedWritesMerge := by
  intro s i t a size hint data r hreceives hclass hopen hfree hentry
  have hunanswered : s.Unanswered r := s.unanswered_of_not_read fun _ _ _ => RequestKind.noConfusion
  have haccept : (s.lookedUp r).accept r = _ := accept_posted (s := s.lookedUp r) rfl (.inl hclass) hopen hfree
  have hmerges : (s.lookedUp r).merges (s.regions.active.classify a hint).cls (lineOf a) = true :=
    merges_iff.2 ⟨hclass, hentry⟩
  refine (s.exec_settled hreceives hunanswered (haccept.trans (kindPosted_of_merges hmerges)) rfl
    (mergeWrite_head ..).symm).trans ?_
  refine congrArg (fun q => Host.Outcome.next (s.settled (State.respond { (s.lookedUp r).dropLatches a size with
    posting := q } (r.answer .writeTaken)))) ?_
  refine List.map_congr_left fun e _ => ?_
  simp only [Bool.and_eq_true, beq_iff_eq]
  rfl

/-! ### The entry a posted write creates -/

theorem State.markFor_none (s : State) (line : Addr) :
    s.markFor line none = youngest (fun w => w.isDeviceWriteTo line) s.waiting := by
  unfold markFor
  split <;> simp [*]

/-- The queue with the new entry has one entry more, so no request was taken into the Wait List (R24). -/
theorem State.enteredWait_createEntry {s t u : State} {r : Request} {c : Classification} {a : Addr} {size : Size}
    {data : List Byte} (hposting : u.posting = (t.createEntry r c a size data).posting)
    (hsame : t.posting = s.posting) : s.enteredWait u = false := by
  have hlength : u.posting.length = s.posting.length + 1 := by
    rw [hposting, createEntry]
    simp only [takeSeq_posting, List.length_append, List.length_singleton]
    split <;> simp [hsame]
  simp [enteredWait, hlength]

/-- Only an OPEN entry changes at a sealing event (R25). -/
theorem PostingEntry.state_close_eq_iff (e : PostingEntry) : e.state = e.close.state ↔ e.state ≠ .opened := by
  unfold close
  split
  next hopen => simp [isOpen_iff.1 hopen]
  next hopen => simp [mt isOpen_iff.2 hopen]

/-- The head comes, or is sealed, exactly where the queue was empty or a POSTED write seals an OPEN head (R28, R72). -/
theorem State.headMoved_createEntry {s t u : State} {r : Request} {c : Classification} {a : Addr} {size : Size}
    {data : List Byte} (hposting : u.posting = (t.createEntry r c a size data).posting)
    (hsame : t.posting = s.posting) :
    s.headMoved u = true ↔
      s.posting = [] ∨
        ∃ e rest, s.posting = e :: rest ∧ c.cls = .posted ∧ e.state = .opened ∧ e.line = lineOf a := by
  rw [headMoved, bne_iff_ne, hposting, createEntry]
  cases hq : s.posting with
  | nil => simp [hsame, hq]
  | cons e rest =>
    simp only [takeSeq_posting, hsame, hq]
    split
    next hposted =>
      simp only [closeWhere, List.map_cons, List.cons_append, List.head?_cons, Option.map_some, Ne, Option.some.injEq]
      split
      next hline => simp [PostingEntry.state_close_eq_iff, hposted, beq_iff_eq.1 hline]
      next hline => simp [mt beq_iff_eq.2 hline]
    next hposted => simp [hposted]

/-- Settles O29: the entry is created, or its creation is refused; the head is looked at before and after. -/
theorem postedWritesCreateEntriesOrAreRefused : Obligations.PostedWritesCreateEntriesOrAreRefused := by
  refine ⟨?_, ?_⟩
  · intro s i t a size hint data r c opens hreceives hopen hfree hclass hroom hreserved u newHead headSealed
    have hunanswered : s.Unanswered r := s.unanswered_of_not_read fun _ _ _ => RequestKind.noConfusion
    have haccept : (s.lookedUp r).accept r = (s.lookedUp r).kindPosted r c a size data :=
      accept_posted (s := s.lookedUp r) rfl (hclass.symm.imp (·.1) id) hopen hfree
    have hnot : (s.lookedUp r).merges c.cls (lineOf a) = false := merges_eq_false hclass
    have hcreated : (((s.lookedUp r).dropLatches a size).createEntry r c a size data).respond (r.answer .writeTaken) =
        u := by
      simp only [createEntry, newEntry, markFor_none, u]
      rfl
    have hposting : u.posting = (((s.lookedUp r).dropLatches a size).createEntry r c a size data).posting := by
      rw [← hcreated]; rfl
    have hdue : s.decisionDue u = true ↔ newHead ∨ headSealed ∨ u.placesInUse < s.placesInUse := by
      rw [decisionDue, enteredWait_createEntry (s := s) hposting rfl, Bool.false_or, Bool.or_eq_true,
        headMoved_createEntry (s := s) hposting rfl, or_assoc, decide_eq_true_eq]
    have hexec := s.exec_command_of_receives hreceives hunanswered
    rw [haccept, kindPosted_of_creates (r := r) hnot hroom hreserved, hcreated] at hexec
    refine ⟨fun hevent => ?_, fun hhead hsealed hplaces => ?_⟩
    · exact hexec.trans (congrArg Host.Outcome.next (if_pos (hdue.2 hevent)))
    · exact hexec.trans (congrArg Host.Outcome.next (if_neg (by simp [hdue, hhead, hsealed, hplaces])))
  · intro s i t a size hint data r c hreceives hopen hfree hclass
    have hunanswered : s.Unanswered r := s.unanswered_of_not_read fun _ _ _ => RequestKind.noConfusion
    have haccept : (s.lookedUp r).accept r = (s.lookedUp r).kindPosted r c a size data :=
      accept_posted (s := s.lookedUp r) rfl (hclass.symm.imp (·.1) id) hopen hfree
    have hnot : (s.lookedUp r).merges c.cls (lineOf a) = false := merges_eq_false hclass
    refine ⟨fun hfull => ?_, fun hroom hreserved => ?_⟩
    · exact s.exec_settled hreceives hunanswered (haccept.trans (kindPosted_of_full hnot hfull)) rfl rfl
    · exact s.exec_settled hreceives hunanswered (haccept.trans (kindPosted_of_reserved hnot hroom hreserved)) rfl rfl

end Sys2Proof.Machine
end

section
/-! The machine's own steps: the queue of commands, what happens on an empty queue (R200), the values a power-on reset
leaves (R201), and the three resets as whole states (R171, R198, R201). -/

namespace Sys2Proof.Machine

open Sys2Proof

namespace State

variable {s : State}

/-! ### What happens on an empty queue -/

theorem idle_of_stopped (h : s.pins.resetLow = true ∨ s.pins.refclkRunning = false) : s.idle = s :=
  if_pos (by rcases h with h | h <;> simp [h])

theorem idle_of_running (hreset : s.pins.resetLow = false) (hclock : s.pins.refclkRunning = true) :
    s.idle =
      match freePick s.freeCount s.due with
      | some c => { s with pending := [c], freeCount := s.freeCount + 1 }
      | none => s.elapse 1 := by
  unfold idle
  exact if_neg (by simp [hreset, hclock])

theorem due_eq_nil (h : ∀ p ∈ s.timers, s.tick < p.1) : s.due = [] := by
  simpa [due, List.filter_eq_nil_iff] using fun a b hab => h (a, b) hab

theorem mem_due {c : Instr} : c ∈ s.due ↔ ∃ p ∈ s.timers, p.1 ≤ s.tick ∧ p.2 = c := by
  simp only [due, List.mem_map, List.mem_filter, decide_eq_true_eq, and_assoc]

/-! ### Expiries that cannot come about -/

theorem expire_none (s : State) (event : State → State) : s.expire none event = s := rfl

theorem reach_of_stopped (h : s.pins.refclkRunning = false) (e : Nat) : s.reach e = none :=
  if_pos (by simp [h])

theorem expire_of_stopped (h : s.pins.refclkRunning = false) (expiry : Option Nat) (event : State → State) :
    s.expire expiry event = s := by
  cases expiry with
  | none => rfl
  | some e => simp only [expire, reach_of_stopped h]

theorem expire_of_absent {expiry : Option Nat} {stopped : Prop} (h : s.pins.refclkRunning = false ∨ stopped)
    (habsent : stopped → expiry = none) (event : State → State) : s.expire expiry event = s := by
  rcases h with hstopped | habs
  · exact expire_of_stopped hstopped _ _
  · rw [habsent habs]
    rfl

theorem entryAt_bind_eq_none {n : Nat} {f : PostingEntry → Option Nat}
    (h : ∀ e ∈ s.posting, e.seq = n → f e = none) : (s.entryAt n).bind f = none := by
  cases hfind : s.entryAt n with
  | none => rfl
  | some e =>
    have hseq : e.seq = n := by simpa using List.find?_some hfind
    exact h e (List.mem_of_find?_eq_some hfind) hseq

theorem keptFor_eq_none {r : RegionIndex} (h : ∀ k ∈ s.pacing.kept, k.region ≠ r) : s.keptFor r = none := by
  have hnone : (s.pacing.kept.filter fun k => k.region == r) = [] := by simpa [List.filter_eq_nil_iff] using h
  rw [keptFor, hnone]
  rfl

theorem memoryExpiry_eq_none (h : ∀ aw e, s.port.state ≠ .busy aw e) : s.memoryExpiry = none := by
  unfold memoryExpiry
  split
  next aw e hbusy => exact absurd hbusy (h aw e)
  all_goals rfl

theorem lockExpiry_eq_none {slot : LockSlot} (h : ∀ o line e, slot ≠ .held o line e) : slot.lockExpiry = none := by
  cases slot with
  | held o line e => exact absurd rfl (h o line e)
  | free | pending | closing => rfl

/-! ### The resets by the fields they change -/

/-- The awaited access at a reset (R87). -/
theorem orphanAccess_eq (s : State) (test : Requester → Bool) :
    s.orphanAccess test =
      { s with
        port :=
          { s.port with
            state :=
              match s.port.state with
              | .busy aw e => .busy { aw with requester := if test aw.requester then .orphan else aw.requester } e
              | .ready => .ready
              | .stalled aw => .stalled aw } } := by
  obtain ⟨pending, tick, pins, fabric, regions, posting, waiting, ⟨state, counter, accesses, mqOut⟩⟩ := s
  cases state with
  | ready | stalled => rfl
  | busy aw e => cases htest : test aw.requester <;> simp [orphanAccess, setPort, htest]

theorem discardPosted_eq (s : State) :
    s.discardPosted =
      { s with
        posting := []
        faults := if s.posting = [] then s.faults else s.faults.handOver (.discarded s.posting.length) } := by
  unfold discardPosted
  split
  next hempty =>
    rw [if_pos (List.isEmpty_iff.1 hempty), ← List.isEmpty_iff.1 hempty]
  next hheld =>
    rw [if_neg (mt List.isEmpty_iff.2 hheld)]
    rfl

theorem linkReset_of_up (h : s.fabric.link = .up) :
    s.linkReset = ((s.dropLink.orphanAccess Requester.isRequest).clearTraffic).judge := by
  simp only [linkReset, h]

theorem linkReset_of_inReset (h : s.fabric.link = .inReset) : s.linkReset = s := by
  simp only [linkReset, h]

end State

open State

/-- Settles O1. -/
theorem stepRunsTheFrontCommand : Obligations.StepRunsTheFrontCommand := fun c rest s h => by
  simp only [step, h]

/-- Settles O2: on an empty queue the part is idle; an expiry whose timer does not run finds no tick to expire at. -/
theorem timersAndTicksPassOnTheClock : Obligations.TimersAndTicksPassOnTheClock := by
  refine ⟨fun s hpending => ?_, fun s c h => ?_⟩
  · have hstep : step s = .next s.idle := by simp only [step, hpending]
    refine ⟨fun h => by rw [hstep, idle_of_stopped h], fun hreset hclock => ?_⟩
    rw [hstep, idle_of_running hreset hclock]
    refine ⟨fun hnone => ?_, fun ⟨p, hp, htick⟩ => ?_⟩
    · rw [due_eq_nil hnone]
      rfl
    · have hdue : s.due ≠ [] := List.ne_nil_of_mem (mem_due.2 ⟨p, hp, htick, rfl⟩)
      obtain ⟨c, hpick⟩ := Option.ne_none_iff_exists'.1 (mt (freePick_eq_none (k := s.freeCount)).1 hdue)
      obtain ⟨q, hq, hqtick, rfl⟩ := mem_due.1 (freePick_mem hpick)
      exact ⟨q, hq, _, hqtick, by rw [hpick]⟩
  · rcases h with ⟨rfl, h⟩ | ⟨n, rfl, h⟩ | ⟨n, rfl, h⟩ | ⟨r, rfl, h⟩ | ⟨k, rfl, h⟩ | ⟨k, rfl, h⟩ | ⟨rfl, h⟩ <;>
      refine congrArg Host.Outcome.next ?_
    · exact expire_of_absent h memoryExpiry_eq_none _
    · exact expire_of_absent h entryAt_bind_eq_none _
    · exact expire_of_absent h entryAt_bind_eq_none _
    · exact expire_of_absent h keptFor_eq_none _
    · exact expire_of_absent h (fun hnone => by rw [hnone]; rfl) _
    · exact expire_of_absent h lockExpiry_eq_none _
    · exact expire_of_absent h id _

/-- Settles O4: the values are read off. -/
theorem resetLeavesPowerOnValues : Obligations.ResetLeavesPowerOnValues := by
  refine ⟨?_, rfl, rfl, rfl, rfl, rfl, rfl, ?_, rfl, rfl, ?_, ?_, rfl, ?_, ?_, ?_, ?_, rfl, rfl, rfl, rfl, rfl, rfl, rfl,
    rfl, ?_⟩ <;> decide

/-- Settles O5: each of the three events at the pins, where a tick samples them and where none does. -/
theorem powerOnResetBeginsAndEnds : Obligations.PowerOnResetBeginsAndEnds := by
  refine ⟨fun s => ⟨exec_powerOnReset_of_running, fun t hclock h => ?_, exec_powerOnReset_of_stopped,
    fun mcV => ⟨fun hclock hreset => ?_, fun h => ?_⟩⟩, fun s => ⟨fun head data h => ?_, rfl⟩⟩
  · rw [exec_powerOnReset_of_running hclock] at h
    cases h
    exact ⟨rfl, rfl⟩
  · exact congrArg Host.Outcome.next (if_pos (by simp [hclock, hreset]))
  · exact congrArg Host.Outcome.next (if_neg (by rcases h with h | h <;> simp [h]))
  · exact if_pos (by rcases h with h | h <;> simp [h])

/-- Settles O53: each law at the empty blocks. -/
theorem lawsHoldAtReset : Obligations.LawsHoldAtReset := by
  have hidle : ∀ aw e, State.reset.port.state ≠ .busy aw e := fun _ _ => PortState.noConfusion
  refine ⟨faults_reset_sound, progress_clear_sound, locks_clear_sound, ?_, .of_free fun k => ?_, fun k => ?_⟩
  · exact .of_idle hidle (.nil _) (.nil _) (by simp [State.reset]) (by simp [State.reset])
  · simp [State.reset]
  · have hfree : State.reset.locks.slots.get k = .free := by simp [State.reset, LockUnit.clear]
    rw [hfree]
    trivial

/-- Settles O35: the parts of the blocks, field by field. -/
theorem linkResetReachesEveryBlock : Obligations.LinkResetReachesEveryBlock := by
  refine fun s => ⟨fun hlink => ?_, fun hlink => ?_⟩
  · exact congrArg Host.Outcome.next (linkReset_of_inReset hlink)
  · refine congrArg Host.Outcome.next ?_
    rw [linkReset_of_up hlink, orphanAccess_eq]
    rfl

theorem exec_softReset_of_atCommand {s : State} (h : s.AtCommand) :
    exec .softReset s = .next (s.drive Config.fill).takeSoftReset :=
  congrArg Host.Outcome.next (State.clockByte_takes_command h (b := 0x5A) rfl rfl)

/-- Settles O17: the parts of the blocks; the answers leave in the order of the free value. -/
theorem softResetReachesEveryBlock : Obligations.SoftResetReachesEveryBlock := by
  intro s h
  refine ⟨freeOrder s.freeCount (s.waiting.map fun w => w.answer .abandoned), s.freeCount + s.waiting.length,
    freeOrder_perm _ _, ?_⟩
  rw [exec_softReset_of_atCommand h, takeSoftReset, softReset, orphanAccess_eq, discardPosted_eq, abandonRequests,
    respondAll_eq, List.length_map]
  rfl

end Sys2Proof.Machine
end

section
/-! Departures and outcomes as whole states (R44 to R47, R65 to R70, R82, R83, R102 to R104, R131 to R135): what leaves,
what is released, and what the Memory Port hands to the requester of its access. -/

namespace Sys2Proof.Machine

open Sys2Proof

/-! ### What a departure does to the sets -/

theorem WaitEntry.release_eq (seq : Nat) (w : WaitEntry) :
    w.release seq =
      match w.work with
      | .access a => { w with work := .access { a with waitsFor := a.waitsFor.filter (· ≠ seq) } }
      | .fence entries requests =>
        { w with work := .fence (entries.filter (· ≠ seq)) (requests.filter (· ≠ seq)) } := by
  have hdiffers : (fun n : Nat => n != seq) = fun n => decide (n ≠ seq) := funext fun _ => (decide_not ..).symm
  cases hwork : w.work with
  | access | fence => simp only [release, hwork, hdiffers]

namespace State

variable {s : State} {aw : Awaited} {expiry : Nat} {w : WaitEntry} {a : WaitAccess} {e : PostingEntry}

/-- A departure by the fields it changes (R37, R47, R67, R70). -/
theorem depart_eq (s : State) (seq : Nat) (answers : List Response) :
    s.depart seq answers =
      { s with
        waiting :=
          (s.waiting.map (WaitEntry.release seq)).filter fun v =>
            !((s.waiting.filter (WaitEntry.isLastOf seq)).any fun w => w.seq == v.seq)
        fabric :=
          { s.fabric with
            outTags :=
              (s.waiting.filter (WaitEntry.isLastOf seq)).foldl
                (fun v w => vset v w.initiator ((v.get w.initiator).filter (· != w.tag))) s.fabric.outTags
            responses :=
              s.fabric.responses ++
                freeOrder s.freeCount
                  (answers ++ (s.waiting.filter (WaitEntry.isLastOf seq)).map fun w => w.answer .done) }
        progress :=
          (freeOrder s.freeCount
            (answers ++ (s.waiting.filter (WaitEntry.isLastOf seq)).map fun w => w.answer .done)).foldl
              (fun p r => p.other r.initiator s.reservationExpiry) s.progress
        freeCount :=
          s.freeCount + (answers ++ (s.waiting.filter (WaitEntry.isLastOf seq)).map fun w => w.answer .done).length } := by
  simp only [depart, removeRequests_eq, respondAll_eq]
  rfl

/-! ### Outcomes -/

theorem handOverAny_failure (s : State) (e : PostingEntry) (ok : Bool) (o : PortOutcome)
    (hok : ok = true → ∃ data, o = .ok data) (herror : ok = false → o = .error) :
    s.handOverAny (e.failure o) =
      { s with
        faults := if ok = true then s.faults else s.faults.handOver (.writeError e.contributors e.line e.mask) } := by
  cases ok with
  | true =>
    obtain ⟨data, rfl⟩ := hok rfl
    rfl
  | false =>
    obtain rfl := herror rfl
    rfl

/-- A completion of the awaited access (R82). -/
theorem completion_of_awaited (hbusy : s.port.state = .busy aw expiry) (ok : Bool) (data : List Byte) :
    s.completion aw.number ok data =
      (((s.recordPace aw.region aw.operation).setPort .ready).deliver aw.requester
        (s.completionOutcome aw ok data)).judge := by
  simp [completion, hbusy]

/-- The expiry of the memory timer of the awaited access (R83). -/
theorem memoryExpired_of_busy (hbusy : s.port.state = .busy aw expiry) :
    s.memoryExpired = ((s.setPort (.stalled { aw with requester := .none })).deliver aw.requester .timeout).judge := by
  simp only [memoryExpired, hbusy]

theorem completionOutcome_error (s : State) (aw : Awaited) (data : List Byte) :
    s.completionOutcome aw false data = .error := rfl

/-- A completion OK of an access that no request awaits is OK (R80). -/
theorem completionOutcome_of_no_size (h : s.awaitedSize aw.requester = none) (data : List Byte) :
    ∃ bytes, s.completionOutcome aw true data = .ok bytes := by
  unfold completionOutcome
  simp only [h, Bool.not_true, Bool.false_eq_true, if_false]
  split
  · exact ⟨_, rfl⟩
  · exact ⟨_, rfl⟩

theorem completionOutcome_write (h : aw.operation = .write) (data : List Byte) :
    s.completionOutcome aw true data = .ok [] := by
  simp [completionOutcome, h]

/-- An OK READ is OK exactly with as much data as it awaits (R80). -/
theorem completionOutcome_read {n : Nat} (h : aw.operation = .read) (hsize : s.awaitedSize aw.requester = some n)
    (data : List Byte) : s.completionOutcome aw true data = if data.length = n then .ok data else .error := by
  simp [completionOutcome, h, hsize]

theorem awaitedSize_of_request (hfind : s.waiting.find? (fun v => v.seq == w.seq) = some w) (hwork : w.work = .access a) :
    s.awaitedSize (.request w.seq) = some (if a.isSplitRead then 8 else a.size.bytes) := by
  simp only [awaitedSize, hfind, hwork]

/-! ### The conclusion of a request -/

/-- Filling a place changes the table alone (R102). -/
theorem exists_fillPlace_eq (s : State) (w : WaitEntry) (a : WaitAccess) (result : CaptureResult) (data : List Byte) :
    ∃ captures, s.fillPlace w a result data = { s with captures := captures } := by
  unfold fillPlace
  split
  · exact ⟨_, rfl⟩
  · exact ⟨s.captures, rfl⟩

/-- It reads neither the pace records nor the port. -/
theorem fillPlace_recordPace (s : State) (r : RegionIndex) (d : Direction) (p : PortState) (w : WaitEntry)
    (a : WaitAccess) (result : CaptureResult) (data : List Byte) :
    ((s.recordPace r d).setPort p).fillPlace w a result data =
      ((s.fillPlace w a result data).recordPace r d).setPort p := by
  rw [fillPlace_setPort]
  unfold fillPlace
  rw [recordPace_captures]
  split <;> rfl

theorem captured_queues (s : State) (w : WaitEntry) (a : WaitAccess) (o : PortOutcome) :
    (if a.claimed = true then s.fillPlace w a o.captureResult o.data else s).posting = s.posting ∧
      (if a.claimed = true then s.fillPlace w a o.captureResult o.data else s).waiting = s.waiting ∧
      (if a.claimed = true then s.fillPlace w a o.captureResult o.data else s).fabric = s.fabric := by
  split <;> simp

/-- A concluded request by the fields its conclusion changes (R40, R65, R67, R102, R131). -/
theorem concluded_eq (s : State) (w : WaitEntry) (a : WaitAccess) (o : PortOutcome) :
    s.concluded w a o =
      { (if a.claimed = true then s.fillPlace w a o.captureResult o.data else s) with
        locks := s.locks.outcome w.seq o.isOk (s.tick + s.mgmt.limits.lockTimeout)
        posting := s.posting.map fun e => if e.heldBehind = some w.seq then { e with heldBehind := none } else e
        waiting := s.waiting.filter fun v => v.seq ≠ w.seq
        fabric :=
          { s.fabric with
            outTags :=
              vset s.fabric.outTags w.initiator
                ((s.fabric.outTags.get w.initiator).filter fun t => t ≠ w.tag) } } := by
  obtain ⟨hposting, hwaiting, hfabric⟩ := s.captured_queues w a o
  have hseq : (fun v : WaitEntry => !([w].any fun w => w.seq == v.seq)) = fun v => decide (v.seq ≠ w.seq) := by
    funext v
    rw [Bool.eq_iff_iff]
    simpa using not_congr eq_comm
  have htag : (fun t : Tag => t != w.tag) = fun t => decide (t ≠ w.tag) := funext fun _ => (decide_not ..).symm
  rw [concluded, removeRequests_eq, hseq]
  simp only [clearMarks, List.foldl_cons, List.foldl_nil, hposting, hwaiting, hfabric, htag]

/-- What a request is answered with: a read its bytes, a write nothing (R65). -/
theorem outcomeAnswer_of_read (h : a.kind.direction = .read) (data : List Byte) :
    w.outcomeAnswer a (.ok data) =
      { bareResponse w.initiator w.tag .done with
        source := some .memory
        data := if a.isSplitRead = true then halfOf data a.address else data } := by
  unfold WaitEntry.outcomeAnswer
  cases hkind : a.kind with
  | read | lockedRead => rfl
  | write | lockedWrite => simp [hkind, AccessKind.direction] at h

theorem outcomeAnswer_of_write (h : a.kind.direction = .write) (data : List Byte) :
    w.outcomeAnswer a (.ok data) = bareResponse w.initiator w.tag .done := by
  unfold WaitEntry.outcomeAnswer
  cases hkind : a.kind with
  | write | lockedWrite => rfl
  | read | lockedRead => simp [hkind, AccessKind.direction] at h

theorem isSplitRead_iff :
    a.isSplitRead = true ↔ a.kind = .read ∧ a.size = .b4 ∧ a.cls = .device ∧ a.captureMode = .split := by
  simp [WaitAccess.isSplitRead, and_assoc]

/-- The completion of the awaited access of a request (R65, R66, R82). -/
theorem completion_of_request (hbusy : s.port.state = .busy aw expiry) (hrequester : aw.requester = .request w.seq)
    (hfind : s.waiting.find? (fun v => v.seq == w.seq) = some w) (hwork : w.work = .access a) {ok : Bool}
    {data : List Byte} {o : PortOutcome} (ho : s.completionOutcome aw ok data = o) :
    s.completion aw.number ok data =
      ((((s.recordPace aw.region aw.operation).setPort .ready).concluded w a o).depart w.seq
        [w.outcomeAnswer a o]).judge := by
  rw [completion_of_awaited hbusy, hrequester, ho]
  exact congrArg judge (requestOutcome_of_access (s := (s.recordPace aw.region aw.operation).setPort .ready) hfind hwork o)

/-- The conclusion at a completion, by the fields that it and the completion change. -/
theorem concluded_at_completion (s : State) (aw : Awaited) (w : WaitEntry) (a : WaitAccess) (o : PortOutcome) :
    ((s.recordPace aw.region aw.operation).setPort .ready).concluded w a o =
      { (if a.claimed = true then s.fillPlace w a o.captureResult o.data else s) with
        pacing :=
          { s.pacing with records := vset s.pacing.records aw.region { last := some aw.operation, time := s.tick } }
        port := { s.port with state := .ready }
        locks := s.locks.outcome w.seq o.isOk (s.tick + s.mgmt.limits.lockTimeout)
        posting := s.posting.map fun e => if e.heldBehind = some w.seq then { e with heldBehind := none } else e
        waiting := s.waiting.filter fun v => v.seq ≠ w.seq
        fabric :=
          { s.fabric with
            outTags :=
              vset s.fabric.outTags w.initiator
                ((s.fabric.outTags.get w.initiator).filter fun t => t ≠ w.tag) } } := by
  rw [concluded_eq, fillPlace_recordPace]
  split
  · obtain ⟨captures, hfilled⟩ := s.exists_fillPlace_eq w a o.captureResult o.data
    rw [hfilled]
    rfl
  · rfl

end State

open State

/-- Settles O42: the departure by its fields; the answers leave in the order of the free value. -/
theorem departuresReleaseWhatWaits : Obligations.DeparturesReleaseWhatWaits := by
  intro s seq answers done released
  have hreleased : released = WaitEntry.release seq := funext fun w => (w.release_eq seq).symm
  refine ⟨_, done.foldl (fun v w => vset v w.initiator ((v.get w.initiator).filter (· != w.tag))) s.fabric.outTags,
    s.freeCount + (answers ++ done.map fun w => w.answer .done).length, freeOrder_perm s.freeCount _, fun i t => ?_, ?_⟩
  · rw [get_foldl_freeTags]
    simp
  · rw [depart_eq, hreleased]
    rfl

/-- Settles O43: the head's completion, whose failure alone hands over a record. -/
theorem headCompletionRemovesTheEntry : Obligations.HeadCompletionRemovesTheEntry := by
  intro s head data aw expiry e rest htakes hbusy hnumber hrequester hposting
  rw [exec_completion_of_takes htakes, ← hnumber, completion_of_awaited hbusy, hrequester]
  refine congrArg (fun t => Host.Outcome.next (judge t)) ?_
  rw [deliver, headOutcome_of_posting (by exact hposting), handOverAny_failure _ _ (completionOk head)]
  · rfl
  · intro hok
    rw [hok]
    exact completionOutcome_of_no_size (by rw [hrequester]; rfl) data
  · intro herror
    rw [herror]
    exact completionOutcome_error ..

/-- Settles O44: the outcome the completion means, and the request it concludes. -/
theorem requestCompletionAnswersTheRequest : Obligations.RequestCompletionAnswersTheRequest := by
  intro s head data aw expiry w a htakes hbusy hnumber hrequester hoperation hw hwork hunique splits reads length hsplits
    hwhole ok ended
  have hfind := find?_seq_eq_some hw hunique
  have hlength : (if a.isSplitRead then 8 else a.size.bytes) = length := by
    split
    next hread => exact (hsplits (isSplitRead_iff.1 hread)).symm
    next hread => exact (hwhole (mt isSplitRead_iff.2 hread)).symm
  have hsize : s.awaitedSize aw.requester = some length := by rw [hrequester, awaitedSize_of_request hfind hwork, hlength]
  have hended : ∀ o, s.completionOutcome aw (completionOk head) data = o →
      exec (.completion head data) s = .next (ended o (w.outcomeAnswer a o)) := fun o ho => by
    rw [exec_completion_of_takes htakes, ← hnumber, completion_of_request hbusy hrequester hfind hwork ho,
      concluded_at_completion]
  refine ⟨fun ⟨hok, hdata⟩ hreads => ?_, fun ⟨hok, hdata⟩ hwrites => ?_, fun hfails => ?_⟩
  · have ho : s.completionOutcome aw (completionOk head) data = .ok data := by
      rw [hok, completionOutcome_read (hoperation.trans hreads) hsize, if_pos (hdata hreads)]
    rw [hended _ ho, outcomeAnswer_of_read hreads]
  · have hwrite : a.kind.direction = .write := by cases hd : a.kind.direction <;> simp_all [reads]
    have ho : s.completionOutcome aw (completionOk head) data = .ok [] := by
      rw [hok, completionOutcome_write (hoperation.trans hwrite)]
    rw [hended _ ho, outcomeAnswer_of_write hwrite]
  · refine hended .error ?_
    cases hok : completionOk head with
    | false => exact completionOutcome_error ..
    | true =>
      obtain ⟨hreads, hdata⟩ : reads ∧ data.length ≠ length := by simpa [ok, hok] using hfails
      rw [completionOutcome_read (hoperation.trans hreads) hsize, if_neg hdata]

/-! ### Places and slots at an outcome -/

theorem fillPlace_of_claim {s : State} {w : WaitEntry} {k : Fin 8} (hclaim : (s.captures.get k).claim = some w.seq)
    (hunique : ∀ j, (s.captures.get j).claim = some w.seq → j = k) (a : WaitAccess) (result : CaptureResult)
    (data : List Byte) :
    s.fillPlace w a result data =
      { s with
        captures :=
          vset s.captures k
            { capture :=
                some
                  { initiator := w.initiator, key := captureKey w.tag a, result := result, data := data,
                    expiry := s.tick + s.mgmt.limits.captureRetention }
              claim := none } } := by
  have hfind : vfind (fun p => p.claimedBy w.seq) s.captures = some k :=
    vfind_eq_of_unique (by simp [Place.claimedBy, hclaim]) fun j hj => hunique j (by simpa [Place.claimedBy] using hj)
  simp only [fillPlace, hfind]
  rfl

/-- The key of a capture, by the half that its address names (R102, R103, R104). -/
theorem captureKey_of_split {a : WaitAccess} (h : a.isSplitRead = true) (t : Tag) :
    captureKey t a =
      if a.address.toNat % 8 < 4 then .split (wordOf a.address) (some t) none
      else .split (wordOf a.address) none (some t) := by
  by_cases hlow : a.address.toNat % 8 < 4
  · rw [captureKey, if_pos h, (inHighHalf_eq_false_iff _).2 hlow, if_pos hlow]
    rfl
  · rw [captureKey, if_pos h, if_neg hlow, if_pos (by simpa using mt (inHighHalf_eq_false_iff _).1 hlow)]

theorem captureKey_of_whole {a : WaitAccess} (h : a.isSplitRead = false) (t : Tag) :
    captureKey t a = .replay t a.address a.size := by
  rw [captureKey, h]
  rfl

/-- The slot whose request has its outcome moves; where there is none the unit stays (R131, R132, R135). -/
theorem LockUnit.outcome_of_slot {u : LockUnit} {k : Fin 2} {n : Nat} (hslot : (u.slots.get k).request = some n)
    (hunique : ∀ j, (u.slots.get j).request = some n → j = k) (ok : Bool) (expiry : Nat) :
    u.outcome n ok expiry = { u with slots := vset u.slots k ((u.slots.get k).afterOutcome ok expiry) } := by
  have hfind : u.slotOf n = some k := vfind_eq_of_unique (by simp [hslot]) fun j hj => hunique j (by simpa using hj)
  simp only [outcome, hfind]
  rfl

theorem LockUnit.outcome_of_no_slot {u : LockUnit} {n : Nat} (h : ∀ j, (u.slots.get j).request ≠ some n) (ok : Bool)
    (expiry : Nat) : u.outcome n ok expiry = u := by
  have hfind : u.slotOf n = none := vfind_none.2 fun j => by simpa using h j
  simp only [outcome, hfind]

/-- Settles O45: the place by its claim, the slot by its request. -/
theorem outcomesFillPlacesAndMoveSlots : Obligations.OutcomesFillPlacesAndMoveSlots := by
  refine ⟨?_,
    fun u k o line n ok expiry hunique => ⟨fun hslot => ?_, fun hslot => ?_⟩,
    fun u n ok expiry hnone => LockUnit.outcome_of_no_slot hnone ok expiry⟩
  · intro s w a result data k hclaim hunique splits key hlow hhigh hwhole
    have hkey : key = captureKey w.tag a := by
      cases hread : a.isSplitRead with
      | false => rw [captureKey_of_whole hread, hwhole (mt isSplitRead_iff.2 (by simp [hread]))]
      | true =>
        rw [captureKey_of_split hread]
        split
        next hhalf => exact hlow (isSplitRead_iff.1 hread) hhalf
        next hhalf => exact hhigh (isSplitRead_iff.1 hread) (Nat.not_lt.1 hhalf)
    rw [fillPlace_of_claim hclaim hunique, hkey]
  · rw [LockUnit.outcome_of_slot (by rw [hslot]; rfl) hunique, hslot]
    rfl
  · rw [LockUnit.outcome_of_slot (by rw [hslot]; rfl) hunique, hslot]
    rfl

/-! ### Orphans and timeouts -/

/-- Time passes to an expiry that can be reached (R200). -/
theorem reach_of_canReach {s : State} {e : Nat} (h : s.CanReach e) : s.reach e = some (s.atTick e) := by
  obtain ⟨hclock, hfree⟩ := h
  rw [reach, if_neg (by simp [hclock])]
  split
  next hpast =>
    rw [atTick, Nat.sub_eq_zero_of_le hpast]
    rfl
  next hfuture =>
    have hall : (s.timers.all fun t => decide (e ≤ t.1)) = true := by
      simpa using hfree.resolve_left hfuture
    rw [if_pos hall]
    rfl

theorem expire_of_canReach {s : State} {e : Nat} (h : s.CanReach e) (event : State → State) :
    s.expire (some e) event = event (s.atTick e) := by
  simp only [expire, reach_of_canReach h]

theorem exec_memoryTimerExpiry {s : State} {aw : Awaited} {e : Nat} (hbusy : s.port.state = .busy aw e)
    (h : s.CanReach e) :
    exec .memoryTimerExpiry s =
      .next ((((s.atTick e).setPort (.stalled { aw with requester := .none })).deliver aw.requester .timeout).judge) := by
  have hexpiry : s.memoryExpiry = some e := by simp only [memoryExpiry, hbusy]
  change Host.Outcome.next (s.expire s.memoryExpiry memoryExpired) = _
  rw [hexpiry, expire_of_canReach h, memoryExpired_of_busy (s := s.atTick e) hbusy]

/-- Settles O47: an orphan's outcome is delivered to nobody. -/
theorem orphansEndAtThePortAlone : Obligations.OrphansEndAtThePortAlone := by
  refine fun s aw expiry hbusy horphan => ⟨fun head data htakes hnumber => ?_, fun hreach => ?_⟩
  · rw [exec_completion_of_takes htakes, ← hnumber, completion_of_awaited hbusy, horphan]
    rfl
  · rw [exec_memoryTimerExpiry hbusy hreach, horphan]
    rfl

/-- Settles O48: the timeout as the outcome of the head and of a request. -/
theorem memoryTimeoutStallsThePort : Obligations.MemoryTimeoutStallsThePort := by
  refine fun s aw expiry hbusy hreach => ⟨fun e rest hrequester hposting => ?_,
    fun w a hrequester hw hwork hunique => ?_⟩
  · rw [exec_memoryTimerExpiry hbusy hreach, hrequester]
    refine congrArg (fun t => Host.Outcome.next (judge t)) ?_
    exact headOutcome_of_posting (s := (s.atTick expiry).setPort (.stalled { aw with requester := .none })) hposting
      .timeout
  · have hfind := find?_seq_eq_some hw hunique
    rw [exec_memoryTimerExpiry hbusy hreach, hrequester]
    refine congrArg (fun t => Host.Outcome.next (judge t)) ?_
    refine (requestOutcome_of_access (s := (s.atTick expiry).setPort (.stalled { aw with requester := .none })) hfind
      hwork .timeout).trans ?_
    rw [concluded_eq]
    rfl

end Sys2Proof.Machine
end

section
/-! Eligibility (R56 to R63) and issue (R43, R64, R78 to R81) condition by condition and field by field, and the expiry
commands at a tick that can be reached (R31, R41, R95, R118, R137, R150). -/

namespace Sys2Proof.Machine

open Sys2Proof

namespace State

variable {s : State} {w : WaitEntry} {a : WaitAccess} {e : PostingEntry} {k : Fin 8}

/-! ### Eligibility -/

theorem isDevice_iff {v : WaitEntry} : v.isDevice = true ↔ ∃ b, v.work = .access b ∧ b.cls = .device := by
  cases hwork : v.work <;> simp [WaitEntry.isDevice, hwork]

theorem isTo_iff {v : WaitEntry} {line : Addr} :
    v.isTo line = true ↔ ∃ b, v.work = .access b ∧ lineOf b.address = line := by
  cases hwork : v.work <;> simp [WaitEntry.isTo, hwork]

theorem isDeviceRead_iff : a.isDeviceRead = true ↔ a.kind.direction = .read ∧ a.cls = .device := by
  simp [WaitAccess.isDeviceRead]

/-- The conditions of a request's class (R56, R57, R58). -/
theorem classOrderMet_iff {n : Nat} :
    s.classOrderMet n a = true ↔
      (a.cls = .device →
        (∀ e ∈ s.posting, n ≤ e.seq) ∧
          ∀ v ∈ s.waiting, ∀ b, v.work = .access b → b.cls = .device → n ≤ v.seq) ∧
      (a.cls ≠ .device → a.waitsFor = []) := by
  have hdevices : (s.waiting.all fun v => !(v.isDevice && decide (v.seq < n))) = true ↔
      ∀ v ∈ s.waiting, ∀ b, v.work = .access b → b.cls = .device → n ≤ v.seq := by
    rw [List.all_eq_true]
    refine forall₂_congr fun v _ => ?_
    rw [Bool.not_eq_true', Bool.and_eq_false_imp, isDevice_iff, decide_eq_false_iff_not, Nat.not_lt]
    exact ⟨fun h b hwork hdevice => h ⟨b, hwork, hdevice⟩, fun h ⟨b, hwork, hdevice⟩ => h b hwork hdevice⟩
  unfold classOrderMet
  cases hcls : a.cls with
  | device => simp only [Bool.and_eq_true, hdevices, List.all_eq_true, decide_eq_true_eq, forall_const, ne_eq,
      not_true_eq_false, false_implies, and_true]
  | merge | posted | blocked => simp

theorem lineOrderMet_iff {n : Nat} :
    s.lineOrderMet n a = true ↔
      ∀ v ∈ s.waiting, ∀ b, v.work = .access b → lineOf b.address = lineOf a.address → n ≤ v.seq := by
  rw [lineOrderMet, List.all_eq_true]
  refine forall₂_congr fun v _ => ?_
  rw [Bool.not_eq_true', Bool.and_eq_false_imp, isTo_iff, decide_eq_false_iff_not, Nat.not_lt]
  exact ⟨fun h b hwork hline => h ⟨b, hwork, hline⟩, fun h ⟨b, hwork, hline⟩ => h b hwork hline⟩

theorem replacementPlace_isSome_iff {i : Initiator} :
    (s.replacementPlace i a).isSome = true ↔
      a.isSplitRead = true ∧ ∃ k c, s.holdsCapture k c ∧ c.splitFor i (wordOf a.address) = true := by
  constructor
  · intro hsome
    obtain ⟨k, hk⟩ := Option.isSome_iff_exists.1 hsome
    refine ⟨?_, k, holds_replacementPlace hk⟩
    by_contra hread
    rw [replacementPlace, if_neg hread] at hk
    cases hk
  · rintro ⟨hread, k, c, hc, hsplit⟩
    rw [Option.isSome_iff_ne_none]
    intro hnone
    rw [splitFor_of_replacementPlace_none hnone hread hc] at hsplit
    cases hsplit

/-- The capture need of a request (R61, R101). -/
theorem captureNeedMet_iff {i : Initiator} :
    s.captureNeedMet i a = true ↔
      (a.cls = .device → a.kind.direction = .read →
        s.placesInUse < 8 ∨
          a.kind = .read ∧ a.size = .b4 ∧ a.captureMode = .split ∧
            ∃ k c, s.holdsCapture k c ∧ c.splitFor i (wordOf a.address) = true) := by
  rw [captureNeedMet, Bool.or_eq_true, Bool.or_eq_true, Bool.not_eq_true', ← Bool.not_eq_true, isDeviceRead_iff,
    decide_eq_true_eq, replacementPlace_isSome_iff, isSplitRead_iff]
  tauto

theorem eligible_of_access (hstate : w.state = .waiting) (hwork : w.work = .access a) :
    s.eligible w =
      (s.classOrderMet w.seq a && s.lineOrderMet w.seq a &&
        s.pacing.eligible a.region a.profile a.kind.direction s.tick && s.captureNeedMet w.initiator a) := by
  simp only [eligible, hstate, hwork]

end State

open State

/-- Settles O37: condition by condition. -/
theorem eligibilityConditions : Obligations.EligibilityConditions := by
  intro s w
  constructor
  · intro heligible
    obtain ⟨hstate, a, hwork⟩ := waiting_of_eligible heligible
    rw [eligible_of_access hstate hwork] at heligible
    simp only [Bool.and_eq_true, classOrderMet_iff, lineOrderMet_iff, captureNeedMet_iff] at heligible
    obtain ⟨⟨⟨⟨hdevice, hwaits⟩, hline⟩, hpacing⟩, hneed⟩ := heligible
    exact ⟨hstate, a, hwork, hdevice, hwaits, hline, hpacing, hneed⟩
  · rintro ⟨hstate, a, hwork, hdevice, hwaits, hline, hpacing, hneed⟩
    rw [eligible_of_access hstate hwork]
    simp only [Bool.and_eq_true, classOrderMet_iff, lineOrderMet_iff, captureNeedMet_iff]
    exact ⟨⟨⟨⟨hdevice, hwaits⟩, hline⟩, hpacing⟩, hneed⟩

/-! ### Bytes of a field -/

/-- A byte of a field is the field shifted right by whole bytes (12.2, 12.3, 12.4). -/
theorem littleEndian_two (v : Nat) : littleEndian 2 v = [BitVec.ofNat 8 v, BitVec.ofNat 8 (v / 2 ^ 8)] := rfl

theorem littleEndian_four (v : Nat) :
    littleEndian 4 v =
      [BitVec.ofNat 8 v, BitVec.ofNat 8 (v / 2 ^ 8), BitVec.ofNat 8 (v / 2 ^ 16), BitVec.ofNat 8 (v / 2 ^ 24)] := by
  simp only [littleEndian, Nat.div_div_eq_div_mul]
  rfl

theorem littleEndian_five (v : Nat) :
    littleEndian 5 v =
      [BitVec.ofNat 8 v, BitVec.ofNat 8 (v / 2 ^ 8), BitVec.ofNat 8 (v / 2 ^ 16), BitVec.ofNat 8 (v / 2 ^ 24),
        BitVec.ofNat 8 (v / 2 ^ 32)] := by
  simp only [littleEndian, Nat.div_div_eq_div_mul]
  rfl

/-- An access frame byte by byte (12.3). -/
theorem Access.frame_eq (a : Access) :
    a.frame =
      [BitVec.ofNat 8 (a.number.val + a.operation.code * 2 ^ 4 + sizeCode a.size * 2 ^ 5),
        BitVec.ofNat 8 a.address.toNat, BitVec.ofNat 8 (a.address.toNat / 2 ^ 8),
        BitVec.ofNat 8 (a.address.toNat / 2 ^ 16), BitVec.ofNat 8 (a.address.toNat / 2 ^ 24),
        BitVec.ofNat 8 (a.address.toNat / 2 ^ 32), BitVec.ofNat 8 a.mask.toNat, BitVec.ofNat 8 (a.mask.toNat / 2 ^ 8),
        BitVec.ofNat 8 (a.mask.toNat / 2 ^ 16), BitVec.ofNat 8 (a.mask.toNat / 2 ^ 24)] ++
        (if a.operation = .read then [] else a.data) := by
  rw [frame, littleEndian_five, littleEndian_four]
  cases a.operation <;> rfl

/-! ### The issue of a request -/

/-- The access a request is presented as (R64). -/
def WaitAccess.presented (a : WaitAccess) (number : AccessNumber) : Access :=
  if a.isSplitRead then
    { number := number, operation := .read, address := wordOf a.address, size := .b8,
      mask := byteMask (wordOf a.address) .b8, data := [] }
  else
    { number := number, operation := a.kind.direction, address := a.address, size := a.size,
      mask := byteMask a.address a.size, data := a.data }

namespace State

variable {s : State} {w : WaitEntry} {a : WaitAccess} {k : Fin 8}

/-- An issue by the fields it changes: the mark, the claim and the port (R64, R78, R79, R81). -/
def issued (s : State) (w : WaitEntry) (a : WaitAccess) (access : Access) (captures : Vector Place 8) : State :=
  { s with
    waiting :=
      s.waiting.map fun v =>
        if v.seq = w.seq then { w with state := .issued, work := .access { a with claimed := a.isDeviceRead } } else v
    captures := captures
    port :=
      { state :=
          .busy
            { number := s.port.counter, operation := access.operation, region := a.region, requester := .request w.seq }
            (s.tick + s.mgmt.limits.memoryTimeout)
        counter := s.port.counter + 1
        accesses := s.port.accesses ++ [access]
        mqOut := s.port.mqOut ++ access.frame } }

theorem markIssued_eq (hwork : w.work = .access a) (hunique : ∀ v ∈ s.waiting, v.seq = w.seq → v = w) :
    s.markIssued w.seq =
      { s with
        waiting :=
          s.waiting.map fun v =>
            if v.seq = w.seq then { w with state := .issued, work := .access { a with claimed := a.isDeviceRead } }
            else v } := by
  unfold markIssued
  refine congrArg (fun l => { s with waiting := l }) (List.map_congr_left fun v hv => ?_)
  split
  next hseq => simp only [hunique v hv hseq, hwork]
  next => rfl

theorem exists_claimPlace_eq (s : State) (n : Nat) (i : Initiator) (a : WaitAccess) :
    ∃ captures, s.claimPlace n i a = { s with captures := captures } := by
  unfold claimPlace
  split
  · exact ⟨_, rfl⟩
  · exact ⟨s.captures, rfl⟩

theorem issueRequest_eq (hwork : w.work = .access a) (hunique : ∀ v ∈ s.waiting, v.seq = w.seq → v = w) :
    s.issueRequest w =
      s.issued w a (a.presented s.port.counter)
        (if a.isDeviceRead then s.claimPlace w.seq w.initiator a else s).captures := by
  obtain ⟨captures, hclaimed⟩ : ∃ captures, (if a.isDeviceRead then s.claimPlace w.seq w.initiator a else s) =
      { s with captures := captures } := by
    split
    · exact exists_claimPlace_eq ..
    · exact ⟨s.captures, rfl⟩
  simp only [issueRequest, hwork]
  rw [hclaimed, markIssued_eq (s := { s with captures := captures }) hwork hunique, issued, WaitAccess.presented]
  split <;> rfl

theorem claimPlace_of_place {n : Nat} {i : Initiator} (h : s.placeToClaim i a = some k) :
    (s.claimPlace n i a).captures = vset s.captures k { s.captures.get k with claim := some n } := by
  simp only [claimPlace, h]

/-- A split read claims the place of its initiator's SPLIT capture for its word (R101). -/
theorem placeToClaim_of_held {i : Initiator} {c : Capture} (hread : a.isSplitRead = true) (hc : s.holdsCapture k c)
    (hsplit : c.splitFor i (wordOf a.address) = true)
    (hunique : ∀ j d, s.holdsCapture j d → d.splitFor i (wordOf a.address) = true → j = k) :
    s.placeToClaim i a = some k := by
  obtain ⟨j, hj⟩ := Option.isSome_iff_exists.1 (replacementPlace_isSome_iff.2 ⟨hread, k, c, hc, hsplit⟩)
  obtain ⟨d, hd, hdsplit⟩ := holds_replacementPlace hj
  simp only [placeToClaim, hj, hunique j d hd hdsplit]

/-- Every other DEVICE read claims a free place, where there is one (R101). -/
theorem placeToClaim_of_free {i : Initiator}
    (hnone : a.isSplitRead = true → ∀ j d, s.holdsCapture j d → d.splitFor i (wordOf a.address) = false)
    (hfree : ∃ k, s.captures.get k = { capture := none, claim := none }) :
    ∃ k, s.captures.get k = { capture := none, claim := none } ∧ s.placeToClaim i a = some k := by
  have hreplacement : s.replacementPlace i a = none := by
    rw [← Option.not_isSome_iff_eq_none, replacementPlace_isSome_iff]
    rintro ⟨hread, k, c, hc, hsplit⟩
    rw [hnone hread k c hc] at hsplit
    cases hsplit
  have hunused : ∀ p : Place, (!p.inUse) = true ↔ p = { capture := none, claim := none } := fun p => by
    obtain ⟨capture, claim⟩ := p
    cases capture <;> cases claim <;> simp [Place.inUse]
  have hsome : vfind (fun p : Place => !p.inUse) s.captures ≠ none := fun hnone => by
    obtain ⟨k, hk⟩ := hfree
    exact absurd (vfind_none.1 hnone k) (by rw [(hunused _).2 hk]; exact Bool.noConfusion)
  obtain ⟨k, hk⟩ := Option.ne_none_iff_exists'.1 hsome
  exact ⟨k, (hunused _).1 (vfind_some (p := fun p : Place => !p.inUse) hk), by simp only [placeToClaim, hreplacement, hk]⟩

theorem issueHead_eq {rest : List PostingEntry} {e : PostingEntry} (h : s.posting = e :: rest) :
    s.issueHead e =
      { s with posting := { e with state := .issued } :: rest }.present .write e.line .b32 e.mask e.data e.region
        .head := by
  rw [issueHead, h]

end State

/-- Settles O39: the frame byte by byte, the head's issue, and the request's with the place it claims. -/
theorem headAndRequestsAreIssued : Obligations.HeadAndRequestsAreIssued := by
  refine ⟨?_, fun s e rest hposting => issueHead_eq hposting, ?_⟩
  · intro access operationBit sizeBits
    have hoperation : access.operation.code = operationBit := by
      simp only [operationBit]
      cases access.operation <;> rfl
    have hsize : sizeCode access.size = sizeBits := by
      simp only [sizeBits]
      cases access.size <;> rfl
    rw [Access.frame_eq, hoperation, hsize, Nat.mul_comm operationBit, Nat.mul_comm sizeBits]
    cases access.operation <;> rfl
  · intro s w a hw hwork hunique splits deviceRead access hsplit hwhole issued claimed
    have haccess : a.presented s.port.counter = access := by
      unfold WaitAccess.presented
      split
      next hread => exact (hsplit (isSplitRead_iff.1 hread)).symm
      next hread => exact (hwhole (mt isSplitRead_iff.2 hread)).symm
    have hissued := issueRequest_eq hwork hunique
    rw [haccess] at hissued
    have hclaimed : ∀ {k}, deviceRead → s.placeToClaim w.initiator a = some k → s.issueRequest w = issued (claimed k) :=
      fun hdevice hplace => by
        rw [hissued, if_pos (isDeviceRead_iff.2 hdevice), claimPlace_of_place hplace]
        rfl
    refine ⟨fun hnot => ?_, fun k c hread hc hfor hone => ?_, fun hdevice hnone hfree => ?_⟩
    · rw [hissued, if_neg (mt isDeviceRead_iff.1 hnot)]
      rfl
    · have hdevice : deviceRead := by
        obtain ⟨hkind, -, hcls, -⟩ := hread
        exact ⟨by rw [hkind]; rfl, hcls⟩
      exact hclaimed hdevice (placeToClaim_of_held (isSplitRead_iff.2 hread) hc hfor hone)
    · obtain ⟨k, hk, hplace⟩ := placeToClaim_of_free (fun hread => hnone (isSplitRead_iff.1 hread)) hfree
      exact ⟨k, hk, hclaimed hdevice hplace⟩

end Sys2Proof.Machine
end

section
/-! The expiry commands, at a tick that can be reached (R31, R41, R95, R118, R137, R150), and why the pace records can be
cleared by a command that is no COMMIT (R96, R186). -/

namespace Sys2Proof.Machine

open Sys2Proof

namespace State

variable {s : State} {e : PostingEntry} {k : Fin 8}

/-! ### Entries -/

/-- The entry with a sequence number, where no other has it (R24). -/
theorem entryAt_eq_some (he : e ∈ s.posting) (hunique : ∀ f ∈ s.posting, f.seq = e.seq → f = e) :
    s.entryAt e.seq = some e := by
  unfold entryAt
  cases hfind : s.posting.find? (fun f => f.seq == e.seq) with
  | none => exact absurd (List.find?_eq_none.1 hfind e he) (by simp)
  | some f =>
    have hseq : f.seq = e.seq := by simpa using List.find?_some hfind
    rw [hunique f (List.mem_of_find?_eq_some hfind) hseq]

theorem close_of_open (h : e.state = .opened) : e.close = { e with state := .sealed, mergeExpiry := none } :=
  if_pos (PostingEntry.isOpen_iff.2 h)

/-- A merge timer that expires seals its OPEN entry (R31). -/
theorem mergeExpired_eq (hunique : ∀ f ∈ s.posting, f.seq = e.seq → f = e) (hopen : e.state = .opened) :
    s.mergeExpired e.seq =
      judge
        { s with
          posting :=
            s.posting.map fun f => if f.seq = e.seq then { f with state := .sealed, mergeExpiry := none } else f } := by
  refine congrArg (fun q => judge { s with posting := q }) (List.map_congr_left fun f hf => ?_)
  simp only [beq_iff_eq]
  split
  next hseq => rw [hunique f hf hseq, close_of_open hopen]
  next => rfl

/-- The drain timer of the head is the one whose expiry wakes the Issue Arbiter (R41, R72). -/
theorem drainExpired_eq (hunique : ∀ f ∈ s.posting, f.seq = e.seq → f = e) :
    s.drainExpired e.seq =
      if s.posting.head? = some e then (s.overdueEntry e.seq).judge else s.overdueEntry e.seq := by
  have hhead : (s.posting.head?.any fun f => f.seq == e.seq) = true ↔ s.posting.head? = some e := by
    cases hq : s.posting.head? with
    | none => simp
    | some f =>
      simp only [Option.any_some, beq_iff_eq, Option.some.injEq]
      exact ⟨hunique f (List.mem_of_mem_head? (by rw [hq]; rfl)), fun h => by rw [h]⟩
  simp only [drainExpired, hhead]

/-- The earliest kept expiry of a region (R95). -/
theorem keptFor_eq_some {r : RegionIndex} {x : KeptExpiry} (hx : x ∈ s.pacing.kept) (hregion : x.region = r)
    (hleast : ∀ j ∈ s.pacing.kept, j.region = r → x.tick ≤ j.tick) : s.keptFor r = some x.tick := by
  rw [keptFor, List.min?_eq_some_iff]
  refine ⟨List.mem_map_of_mem (List.mem_filter.2 ⟨hx, by simp [hregion]⟩), fun b hb => ?_⟩
  obtain ⟨j, hj, rfl⟩ := List.mem_map.1 hb
  obtain ⟨hkept, hjregion⟩ := List.mem_filter.1 hj
  exact hleast j hkept (by simpa using hjregion)

/-! ### Captures, locks and the reservation -/

/-- A capture that expires frees its place where nothing claims it (R118, R119). -/
theorem retentionExpired_eq (s : State) (k : Fin 8) :
    s.retentionExpired k =
      if (s.captures.get k).claim = none then (s.clearCapture k).judge else s.clearCapture k := by
  unfold retentionExpired
  cases (s.captures.get k).claim <;> rfl

theorem lockExpired_of_held {k : Fin 2} {o : Initiator} {line : Addr} {n : Nat}
    (h : s.locks.slots.get k = .held o line n) :
    s.lockExpired k =
      { s with locks := (s.locks.put k .free).mark o (some line) }.handOver (.lockBroken o line) := by
  simp only [lockExpired, h]

theorem reservationExpired_of_head {h : Initiator} {rest : List Initiator} (hhead : s.progress.favoured = h :: rest) :
    s.reservationExpired =
      { s with
        progress :=
          { counts := vset s.progress.counts h 0
            favoured := rest
            wanted := .none
            reservation := if rest = [] then none else some s.reservationExpiry } } := by
  simp only [reservationExpired, hhead, ProgressMonitor.dropHead, List.tail_cons, List.isEmpty_iff]

end State

open State

/-- Settles O49: each expiry is the one its command finds, and its event is that of the reached state. -/
theorem entryAndPacingTimersExpire : Obligations.EntryAndPacingTimersExpire := by
  refine ⟨fun s e expiry he hunique hreach => ⟨fun hexpiry hopen => ?_, ?_⟩, fun s r x hx hregion hleast hreach => ?_⟩
  · change Host.Outcome.next (s.expire ((s.entryAt e.seq).bind (·.mergeExpiry)) _) = _
    rw [entryAt_eq_some he hunique, Option.bind_some, hexpiry, expire_of_canReach hreach,
      mergeExpired_eq (s := s.atTick expiry) hunique hopen]
    rfl
  · intro hexpiry u
    change Host.Outcome.next (s.expire ((s.entryAt e.seq).bind (·.drainExpiry)) _) = _
    rw [entryAt_eq_some he hunique, Option.bind_some, hexpiry, expire_of_canReach hreach,
      drainExpired_eq (s := s.atTick expiry) hunique]
    rfl
  · change Host.Outcome.next (s.expire (s.keptFor r) _) = _
    rw [keptFor_eq_some hx hregion hleast, expire_of_canReach hreach]
    rfl

/-- Settles O50: the capture and the Favoured List as the reached state has them. -/
theorem retentionAndReservationTimersExpire : Obligations.RetentionAndReservationTimersExpire := by
  refine ⟨?_, fun s expiry h rest hreservation hhead hreach => ?_⟩
  · intro s k c hold hreach u
    change Host.Outcome.next (s.expire ((s.captures.get k).capture.map (·.expiry)) _) = _
    rw [hold, Option.map_some, expire_of_canReach hreach, retentionExpired_eq]
    rfl
  · change Host.Outcome.next (s.expire s.progress.reservation _) = _
    rw [hreservation, expire_of_canReach hreach, reservationExpired_of_head (s := s.atTick expiry) hhead]
    rfl

/-- Settles O51: the slot is HELD in the reached state. -/
theorem lockExpiryBreaksTheLock : Obligations.LockExpiryBreaksTheLock := by
  intro s k o line expiry hheld hreach
  change Host.Outcome.next (s.expire (s.locks.slots.get k).lockExpiry _) = _
  have hexpiry : (s.locks.slots.get k).lockExpiry = some expiry := by rw [hheld]; rfl
  rw [hexpiry, expire_of_canReach hreach, lockExpired_of_held (s := s.atTick expiry) hheld]
  rfl

/-! ### A COMMIT that no COMMAND byte named -/

/-- A frame in ARGUMENTS of COMMIT, which takes none, with history in the pace record of region 0. -/
def strayCommit : State :=
  { State.reset with
    pins := { State.reset.pins with csLow := true }
    mgmt := { State.reset.mgmt with phase := .arguments .commit [] }
    pacing :=
      { State.reset.pacing with records := vset State.reset.pacing.records 0 { last := some .read, time := 3 } } }

/-- The state after one more byte, which completes the command (R186, R187). -/
def strayCommitted : State := strayCommit.clockByte 0x00

theorem exec_strayCommit : exec (.byteReceived 0x00) strayCommit = .next strayCommitted := rfl

/-- The installed table clears the record, though no COMMAND byte was to be received (R17, R18). -/
theorem strayCommit_shape :
    strayCommitted.pacing.records.get 0 = { last := none, time := 0 } ∧
      strayCommit.pacing.records.get 0 = { last := some .read, time := 3 } ∧ strayCommit.mgmt.phase ≠ .command := by
  decide

/-- Refutes O41: a byte in ARGUMENTS of COMMIT, a phase no frame comes to, clears the pace records outside COMMAND. -/
theorem not_paceRecordsAndKeptExpiries : ¬ Obligations.PaceRecordsAndKeptExpiries := by
  obtain ⟨hcleared, hhistory, hphase⟩ := strayCommit_shape
  rintro ⟨hrecords, -⟩
  rcases hrecords _ _ _ exec_strayCommit with hsame | ⟨head, data, aw, hcommand, -⟩ | ⟨hcommand | ⟨hat, -⟩, -⟩
  · rw [hsame, hhistory] at hcleared
    cases hcleared
  · cases hcommand
  · cases hcommand
  · exact hphase hat.2

end Sys2Proof.Machine
end

section
/-! The Region Classifier's resolution (R2 to R5): what a page matches, which class is the strongest among the matches, and
which of them supplies the settings. -/

namespace Sys2Proof.Machine

open Sys2Proof

namespace AccessClass

/-- The ranking of R1 as the place in its list. -/
theorem rank_eq_idxOf (c : AccessClass) : [AccessClass.merge, .posted, .device, .blocked].idxOf c = c.rank := by
  cases c <;> rfl

theorem rank_injective {c d : AccessClass} (h : c.rank = d.rank) : c = d := by
  rw [← rank_eq_idxOf, ← rank_eq_idxOf] at h
  exact (List.idxOf_inj (by cases c <;> simp)).1 h

theorem rank_stronger (c d : AccessClass) : (c.stronger d).rank = max c.rank d.rank := by
  unfold stronger
  split
  next hle => exact (max_eq_right hle).symm
  next hlt => exact (max_eq_left (not_le.1 hlt).le).symm

end AccessClass

namespace RegionTable

variable {t : RegionTable} {a : Addr} {k : Fin 16} {n : Nat}

/-- The page of an address is its number by 4096 (00_scope.md, 4.2). -/
theorem toNat_pageOf (a : Addr) : (pageOf a).toNat = a.toNat / 4096 := by
  have hlt := a.isLt
  rw [pageOf, BitVec.extractLsb'_toNat, Nat.shiftRight_eq_div_pow]
  omega

theorem mem_matching : k ∈ t.matching (pageOf a) ↔
    (t.entries.get k).valid = true ∧ (t.entries.get k).base.toNat ≤ a.toNat / 4096 ∧
      a.toNat / 4096 ≤ (t.entries.get k).limit.toNat := by
  simp [matching, RegionEntry.covers, toNat_pageOf, and_assoc]

theorem pairwise_matching (t : RegionTable) (p : Page) : (t.matching p).Pairwise fun j k => j.val < k.val :=
  (List.pairwise_lt_finRange 16).filter _

/-- The strongest class is that of one among the classes compared, and as strong as each (R4). -/
theorem rank_foldl_le (ks : List (Fin 16)) (hks : ∀ k ∈ ks, (t.classAt k).rank ≤ n) {c : AccessClass} (hc : c.rank ≤ n) :
    (ks.foldl (fun c k => c.stronger (t.classAt k)) c).rank ≤ n := by
  induction ks generalizing c with
  | nil => exact hc
  | cons k ks ih =>
    refine ih (fun j hj => hks j (List.mem_cons_of_mem _ hj)) ?_
    rw [AccessClass.rank_stronger]
    exact max_le hc (hks k List.mem_cons_self)

theorem le_rank_foldl (ks : List (Fin 16)) (c : AccessClass) :
    c.rank ≤ (ks.foldl (fun c k => c.stronger (t.classAt k)) c).rank ∧
      ∀ k ∈ ks, (t.classAt k).rank ≤ (ks.foldl (fun c k => c.stronger (t.classAt k)) c).rank := by
  induction ks generalizing c with
  | nil => exact ⟨le_rfl, by simp⟩
  | cons k ks ih =>
    obtain ⟨hstart, hrest⟩ := ih (c.stronger (t.classAt k))
    rw [AccessClass.rank_stronger] at hstart
    exact ⟨(le_max_left _ _).trans hstart, List.forall_mem_cons.2 ⟨(le_max_right _ _).trans hstart, hrest⟩⟩

/-- The class of a match that no other exceeds is the strongest (R4, step 1). -/
theorem strongest_eq {ks : List (Fin 16)} (hk : k ∈ ks)
    (hmost : ∀ j ∈ ks, (t.classAt j).rank ≤ (t.classAt k).rank) : t.strongest ks = t.classAt k :=
  AccessClass.rank_injective
    (le_antisymm (rank_foldl_le ks hmost (Nat.zero_le _)) ((le_rank_foldl ks .merge).2 k hk))

theorem resolve_of_no_match (h : ∀ k, k ∉ t.matching (pageOf a)) : t.resolve a = (t.defaultRegion, 16) := by
  simp only [resolve, List.eq_nil_iff_forall_not_mem.2 h, List.find?_nil]

theorem resolve_of_match (hk : k ∈ t.matching (pageOf a))
    (hmost : ∀ j ∈ t.matching (pageOf a), (t.classAt j).rank ≤ (t.classAt k).rank)
    (hlowest : ∀ j ∈ t.matching (pageOf a), j < k → (t.classAt j).rank < (t.classAt k).rank) :
    t.resolve a = ((t.entries.get k).settings, k.castSucc) := by
  have hfind : (t.matching (pageOf a)).find? (fun j => t.classAt j == t.strongest (t.matching (pageOf a))) = some k := by
    rw [strongest_eq hk hmost]
    refine find?_eq_some_of_least (f := Fin.val) (t.pairwise_matching _) hk (beq_self_eq_true _) fun j hj hclass => ?_
    refine Nat.not_lt.1 fun hlt => (hlowest j hj hlt).ne ?_
    rw [beq_iff_eq.1 hclass]
  simp only [resolve, hfind]

end RegionTable

/-- Settles O6: the resolution by its matches, then the hint. -/
theorem classificationFollowsTheTable : Obligations.ClassificationFollowsTheTable := by
  intro t a m rank
  have hm : ∀ k, m k ↔ k ∈ t.matching (pageOf a) := fun k => RegionTable.mem_matching.symm
  have hrank : ∀ c, rank c = c.rank := AccessClass.rank_eq_idxOf
  simp only [hm, hrank]
  refine ⟨RegionTable.resolve_of_no_match, fun k => RegionTable.resolve_of_match, fun hint => ?_⟩
  refine ⟨?_, rfl, rfl, rfl, rfl⟩
  cases hint <;> rfl

end Sys2Proof.Machine
end

section
/-! The frames of the Management Port: phases (R186, R188, R189), the codes and fields of commands (12.1, 12.4), and the
commands with arguments at the receipt of their last byte (R192, R194, R195, R197). -/

namespace Sys2Proof.Machine

open Sys2Proof

/-! ### Fields of several bytes, most significant first (12.4) -/

theorem bigEndian_two (v : Nat) : bigEndian 2 v = [BitVec.ofNat 8 (v / 2 ^ 8), BitVec.ofNat 8 v] := by
  rw [bigEndian, littleEndian_two]
  rfl

theorem bigEndian_four (v : Nat) :
    bigEndian 4 v =
      [BitVec.ofNat 8 (v / 2 ^ 24), BitVec.ofNat 8 (v / 2 ^ 16), BitVec.ofNat 8 (v / 2 ^ 8), BitVec.ofNat 8 v] := by
  rw [bigEndian, littleEndian_four]
  rfl

theorem bigEndian_five (v : Nat) :
    bigEndian 5 v =
      [BitVec.ofNat 8 (v / 2 ^ 32), BitVec.ofNat 8 (v / 2 ^ 24), BitVec.ofNat 8 (v / 2 ^ 16),
        BitVec.ofNat 8 (v / 2 ^ 8), BitVec.ofNat 8 v] := by
  rw [bigEndian, littleEndian_five]
  rfl

/-! ### Codes (12.1, 12.4) -/

/-- The byte that names a command (12.4). -/
def Command.byte : Command → Byte
  | .status => 0x01
  | .readRegion => 0x10
  | .writeRegion => 0x11
  | .copyActive => 0x12
  | .commit => 0x13
  | .readProfile => 0x20
  | .writeProfile => 0x21
  | .readLimit => 0x30
  | .writeLimit => 0x31
  | .popFault => 0x40
  | .abandon => 0x50
  | .softReset => 0x5A

theorem Command.ofCode_byte (c : Command) : Command.ofCode c.byte = some c := by cases c <;> rfl

theorem Command.byte_of_ofCode {b : Byte} {c : Command} (h : Command.ofCode b = some c) : b = c.byte := by
  unfold ofCode at h
  split at h
  case h_13 => cases h
  all_goals
    rename_i hb
    cases h
    exact BitVec.eq_of_toNat_eq hb

theorem profileOfByte_eq_some_iff {b : Byte} {k : ProfileIndex} : profileOfByte b = some k ↔ b.toNat = k.val := by
  unfold profileOfByte
  split
  next hlt => simp [Fin.ext_iff]
  next hge => simpa using fun h : b.toNat = k.val => hge (h ▸ k.isLt)

theorem profileOfByte_eq_none {b : Byte} (h : 3 < b.toNat) : profileOfByte b = none :=
  dif_neg (Nat.not_lt.2 h)

/-- A limit's identifier and range (10.5, 12.4). -/
theorem LimitName.ofCode_of_row {b : Byte} {row : Nat × LimitName × Nat × Nat}
    (hrow : row ∈ [(1, LimitName.retryThreshold, 1, 15), (2, .lockTimeout, 16, 65535), (3, .captureRetention, 64, 65535),
      (4, .memoryTimeout, 256, 65535), (5, .mergeAge, 0, 255), (6, .drainAge, 16, 4095), (7, .highWater, 1, 16),
      (8, .reservationTimeout, 64, 65535)])
    (hb : row.1 = b.toNat) :
    LimitName.ofCode b = some row.2.1 ∧ row.2.1.least = row.2.2.1 ∧ row.2.1.greatest = row.2.2.2 := by
  simp only [List.mem_cons, List.not_mem_nil, or_false] at hrow
  rcases hrow with rfl | rfl | rfl | rfl | rfl | rfl | rfl | rfl <;>
    exact ⟨by simp only [LimitName.ofCode, ← hb], rfl, rfl⟩

theorem LimitName.ofCode_eq_none {b : Byte} (h : b.toNat = 0 ∨ 8 < b.toNat) : LimitName.ofCode b = none := by
  unfold LimitName.ofCode
  split
  case h_9 => rfl
  all_goals omega

/-! ### Byte positions of a frame -/

/-- A command of the Management Port is the byte it receives (R186; log entry 7). -/
theorem exec_of_mosiByte {c : Instr} {b : Byte} (h : mosiByte c = some b) (s : State) :
    exec c s = .next (s.clockByte b) := by
  cases c with
  | badCommand | status | readRegion | writeRegion | copyActive | commit | readProfile | writeProfile | readLimit
  | writeLimit | popFault | abandon | softReset | byteReceived | bytePositionClocked =>
    cases h
    rfl
  | read | write | lockedRead | lockedWrite | lockDrop | fence | discard | malformedRequest | frameDiscardedInReset
  | linkReset | linkUp | powerOnReset | powerOnResetEnd | completion | memoryTimerExpiry | mergeTimerExpiry
  | drainTimerExpiry | pacingExpiry | retentionTimerExpiry | lockTimerExpiry | reservationTimerExpiry | frameStart
  | frameEnd | mcVFalling => cases h

namespace State

variable {s : State} {c : Command} {args : List Byte}

theorem clockByte_of_no_command (hcs : s.pins.csLow = true) (h : s.mgmt.phase = .ignore ∨ s.mgmt.phase = .idle)
    (b : Byte) : s.clockByte b = s.drive Config.fill := by
  rcases h with h | h <;> simp [clockByte, hcs, h]

theorem clockByte_of_arguments (hcs : s.pins.csLow = true) (h : s.mgmt.phase = .arguments c args) (b : Byte) :
    s.clockByte b = (s.drive Config.fill).addArgument c args b := by
  simp [clockByte, hcs, h]

theorem clockByte_of_response {c : Option Command} {bytes : List Byte} {sent : Nat} (hcs : s.pins.csLow = true)
    (h : s.mgmt.phase = .response c bytes sent) (b : Byte) :
    s.clockByte b =
      (s.drive (bytes.getD sent Config.fill)).setPhase
        (if sent + 1 < bytes.length then .response c bytes (sent + 1) else .trailing c bytes) := by
  simp [clockByte, hcs, h]

theorem clockByte_of_trailing {c : Option Command} {bytes : List Byte} (hcs : s.pins.csLow = true)
    (h : s.mgmt.phase = .trailing c bytes) (b : Byte) : s.clockByte b = s.drive Config.fill := by
  simp [clockByte, hcs, h]

theorem nameCommand_of_arguments (hargs : c.argumentBytes ≠ 0) : s.nameCommand c.byte = s.setPhase (.arguments c []) := by
  simp [nameCommand, c.ofCode_byte, hargs]

theorem nameCommand_of_undefined {b : Byte} (h : Command.ofCode b = none) :
    s.nameCommand b = s.answerFrame none .badCommand [] := by
  simp only [nameCommand, h]

theorem addArgument_of_more (h : args.length + 1 < c.argumentBytes) (b : Byte) :
    s.addArgument c args b = s.setPhase (.arguments c (args ++ [b])) := if_pos h

/-- The last argument byte completes the command (R186, R187). -/
theorem clockByte_of_atLastArgument (h : s.AtLastArgument c args) (b : Byte) :
    s.clockByte b = (s.drive Config.fill).takeCommand c (args ++ [b]) := by
  obtain ⟨hcs, hphase, hlast⟩ := h
  rw [clockByte_of_arguments hcs hphase, addArgument, if_neg (by omega)]

/-! ### The ends of a frame -/

theorem popsFault_of_readout {bytes : List Byte} (h : s.mgmt.phase = .trailing (some .popFault) (0x00 :: bytes)) :
    s.popsFault = true := by
  simp only [popsFault, h]
  rfl

theorem popsFault_eq_false (h : ∀ bytes, s.mgmt.phase ≠ .trailing (some .popFault) (0x00 :: bytes)) :
    s.popsFault = false := by
  unfold popsFault
  split
  next bytes hphase =>
    rw [Bool.eq_false_iff]
    intro hok
    obtain ⟨rest, rfl⟩ := List.head?_eq_some_iff.1 (beq_iff_eq.1 hok)
    exact h rest hphase
  next => rfl

theorem endFrame_eq (hcs : s.pins.csLow = true) :
    s.endFrame =
      { s with
        pins := { s.pins with csLow := false }
        mgmt := { s.mgmt with phase := .idle }
        faults := if s.popsFault then s.faults.removeHead else s.faults } := if_neg (by simp [hcs])

end State

theorem FaultQueue.removeHead_cons {q : FaultQueue} {r : FaultRecord} {rest : List FaultRecord}
    (h : q.records = r :: rest) :
    q.removeHead = { q with records := rest, faultN := if rest = [] then .high else q.faultN } := by
  cases rest with
  | nil => simp only [removeHead, h, if_true]
  | cons => simp only [removeHead, h, reduceCtorEq, if_false]

open State

/-- Settles O11: the two ends of a frame by the phase they find. -/
theorem framesStartAndEnd : Obligations.FramesStartAndEnd := by
  refine fun s => ⟨fun hcs hreset hidle => ?_, fun hcs hreset => ?_, fun hcs hphase => ?_,
    fun bytes r rest hcs hphase hrecords => ?_⟩
  · change Host.Outcome.next s.startFrame = _
    simp [startFrame, hcs, hreset, hidle]
  · change Host.Outcome.next s.startFrame = _
    simp [startFrame, hcs, hreset]
  · refine congrArg Host.Outcome.next ((endFrame_eq hcs).trans ?_)
    rw [popsFault_eq_false hphase]
    rfl
  · refine congrArg Host.Outcome.next ((endFrame_eq hcs).trans ?_)
    rw [popsFault_of_readout hphase, if_pos rfl, FaultQueue.removeHead_cons hrecords]

/-- Settles O12: each phase at one byte position. -/
theorem commandBytesAreTakenAndAnswered : Obligations.CommandBytesAreTakenAndAnswered := by
  refine ⟨fun s b row hrow => ?_, fun s c b hcs hphase hbyte => ?_, fun s hreset b => ?_,
    fun s mosi c bytes hcs => ⟨fun sent hsent hphase => ?_, fun hphase => ?_⟩, fun s b hat hundefined => ?_⟩
  · have hnames : row.1 = row.2.1.byte ∧ row.2.1.argumentBytes = row.2.2 ∧ row.2.2 ≠ 0 := by
      simp only [List.mem_cons, List.not_mem_nil, or_false] at hrow
      rcases hrow with rfl | rfl | rfl | rfl | rfl | rfl <;> exact ⟨rfl, rfl, nofun⟩
    obtain ⟨hbyte, hargs, hsome⟩ := hnames
    refine ⟨hargs, fun hat => ?_, fun args hcs hphase hmore => ?_⟩
    · refine congrArg Host.Outcome.next ((clockByte_of_atCommand hat _).trans ?_)
      rw [hbyte, nameCommand_of_arguments (hargs ▸ hsome)]
      rfl
    · refine congrArg Host.Outcome.next ((clockByte_of_arguments hcs hphase b).trans ?_)
      rw [addArgument_of_more (hargs ▸ hmore)]
      rfl
  · rw [exec_of_mosiByte hbyte, clockByte_of_no_command hcs hphase]
    rfl
  · exact if_neg (by simp [hreset])
  · refine congrArg Host.Outcome.next ((clockByte_of_response hcs hphase mosi).trans ?_)
    rw [List.getD_eq_getElem _ _ hsent]
    by_cases hlast : sent + 1 = bytes.length
    · rw [if_neg (by omega), if_pos hlast]
      rfl
    · rw [if_pos (by omega), if_neg hlast]
      rfl
  · exact congrArg Host.Outcome.next (clockByte_of_trailing hcs hphase mosi)
  · have hnone : Command.ofCode b = none := by
      cases hcode : Command.ofCode b with
      | none => rfl
      | some c =>
        rw [Command.byte_of_ofCode hcode] at hundefined
        exact absurd (by cases c <;> simp [Command.byte]) hundefined
    refine congrArg Host.Outcome.next ((clockByte_of_atCommand hat b).trans ?_)
    rw [nameCommand_of_undefined hnone, drive_answerFrame]
    rfl

/-! ### Profiles and limits -/

theorem decodeProfile_of_fields {readGap writeGap last : Byte} {p : PacingProfile} (hread : p.readGap.val = readGap.toNat)
    (hwrite : p.writeGap.val = writeGap.toNat) (hlast : p.turnaround.val = last.toNat) :
    decodeProfile readGap writeGap last = some p := by
  have hlt : last.toNat < 16 := hlast ▸ p.turnaround.isLt
  obtain ⟨r, w, t⟩ := p
  rw [decodeProfile, dif_pos hlt]
  simp only [Option.some.injEq, PacingProfile.mk.injEq, Fin.ext_iff]
  exact ⟨hread.symm, hwrite.symm, hlast.symm⟩

theorem decodeProfile_eq_none {readGap writeGap last : Byte} (h : 15 < last.toNat) :
    decodeProfile readGap writeGap last = none := dif_neg (by omega)

namespace State

variable {s : State} {n readGap writeGap last b : Byte} {k : ProfileIndex} {name : LimitName}

theorem takeReadProfile_of_bad_index (h : 3 < n.toNat) :
    s.takeReadProfile [n] = s.answerFrame (some .readProfile) .badIndex [] := by
  simp only [takeReadProfile, List.getD_cons_zero, profileOfByte_eq_none h]

theorem takeReadProfile_of_index (h : n.toNat = k.val) :
    s.takeReadProfile [n] = s.answerFrame (some .readProfile) .ok (s.pacing.profiles.get k).encode := by
  simp only [takeReadProfile, List.getD_cons_zero, profileOfByte_eq_some_iff.2 h]

theorem takeWriteProfile_of_bad_index (h : 3 < n.toNat) :
    s.takeWriteProfile [n, readGap, writeGap, last] = s.answerFrame (some .writeProfile) .badIndex [] := by
  simp only [takeWriteProfile, List.getD_cons_zero, profileOfByte_eq_none h]

theorem takeWriteProfile_of_bad_value (h : n.toNat = k.val) (hlast : 15 < last.toNat) :
    s.takeWriteProfile [n, readGap, writeGap, last] = s.answerFrame (some .writeProfile) .badValue [] := by
  simp only [takeWriteProfile, List.getD_cons_zero, List.getD_cons_succ, profileOfByte_eq_some_iff.2 h,
    decodeProfile_eq_none hlast]

theorem takeWriteProfile_of_fields {p : PacingProfile} (h : n.toNat = k.val) (hread : p.readGap.val = readGap.toNat)
    (hwrite : p.writeGap.val = writeGap.toNat) (hlast : p.turnaround.val = last.toNat) :
    s.takeWriteProfile [n, readGap, writeGap, last] = (s.answerFrame (some .writeProfile) .ok []).setProfile k p := by
  simp only [takeWriteProfile, List.getD_cons_zero, List.getD_cons_succ, profileOfByte_eq_some_iff.2 h,
    decodeProfile_of_fields hread hwrite hlast]

theorem takeReadLimit_of_bad_index (h : b.toNat = 0 ∨ 8 < b.toNat) :
    s.takeReadLimit [b] = s.answerFrame (some .readLimit) .badIndex [] := by
  simp only [takeReadLimit, List.getD_cons_zero, LimitName.ofCode_eq_none h]

theorem takeReadLimit_of_name (h : LimitName.ofCode b = some name) :
    s.takeReadLimit [b] =
      s.answerFrame (some .readLimit) .ok
        [BitVec.ofNat 8 (s.mgmt.limits.get name / 2 ^ 8), BitVec.ofNat 8 (s.mgmt.limits.get name)] := by
  simp only [takeReadLimit, List.getD_cons_zero, h, bigEndian_two]

theorem takeWriteLimit_of_bad_index {high low : Byte} (h : b.toNat = 0 ∨ 8 < b.toNat) :
    s.takeWriteLimit [b, high, low] = s.answerFrame (some .writeLimit) .badIndex [] := by
  simp only [takeWriteLimit, List.getD_cons_zero, LimitName.ofCode_eq_none h]

theorem takeWriteLimit_of_name {high low : Byte} (h : LimitName.ofCode b = some name) :
    s.takeWriteLimit [b, high, low] =
      if name.least ≤ high.toNat * 256 + low.toNat ∧ high.toNat * 256 + low.toNat ≤ name.greatest then
        (s.setLimit name (high.toNat * 256 + low.toNat)).answerFrame (some .writeLimit) .ok []
      else s.answerFrame (some .writeLimit) .badValue [] := by
  have hvalue : ofBigEndian [high, low] = high.toNat * 256 + low.toNat := by simp [ofBigEndian]
  simp only [takeWriteLimit, List.getD_cons_zero, h, List.drop_succ_cons, List.drop_zero, hvalue, LimitName.inRange,
    Bool.and_eq_true, decide_eq_true_eq]

end State

/-- The bytes of READ_PROFILE, WRITE_PROFILE, READ_LIMIT and WRITE_LIMIT that complete them (R186; log entry 7). -/
theorem exec_at_last_argument {s : State} {c : Command} {args : List Byte} {i : Instr} {b : Byte}
    (hat : s.AtLastArgument c args) (hbyte : mosiByte i = some b) :
    exec i s = .next ((s.drive Config.fill).takeCommand c (args ++ [b])) := by
  rw [exec_of_mosiByte hbyte, clockByte_of_atLastArgument hat]

/-- Settles O14: each command at its last argument byte, check by check. -/
theorem profilesAndLimitsAreReadAndWritten : Obligations.ProfilesAndLimitsAreReadAndWritten := by
  refine ⟨fun s => ⟨fun n hat => ⟨fun hbad => ?_, ?_⟩,
    fun n readGap writeGap last hat => ⟨fun hbad => ?_, fun hindex hvalue => ?_, fun k p hk hread hwrite hlast => ?_⟩⟩,
    ?_⟩
  · exact (exec_at_last_argument hat rfl).trans (congrArg Host.Outcome.next (takeReadProfile_of_bad_index hbad))
  · exact fun k hk => (exec_at_last_argument hat rfl).trans (congrArg Host.Outcome.next (takeReadProfile_of_index hk))
  · exact (exec_at_last_argument hat rfl).trans (congrArg Host.Outcome.next (takeWriteProfile_of_bad_index hbad))
  · exact (exec_at_last_argument hat rfl).trans
      (congrArg Host.Outcome.next (takeWriteProfile_of_bad_value (k := ⟨n.toNat, Nat.lt_succ_of_le hindex⟩) rfl hvalue))
  · exact (exec_at_last_argument hat rfl).trans
      (congrArg Host.Outcome.next (takeWriteProfile_of_fields hk hread hwrite hlast))
  · intro s table
    refine ⟨fun b hat => ⟨fun hbad => ?_, fun row hrow hb => ?_⟩, ?_⟩
    · exact (exec_at_last_argument hat rfl).trans (congrArg Host.Outcome.next (takeReadLimit_of_bad_index hbad))
    · obtain ⟨hname, -, -⟩ := LimitName.ofCode_of_row hrow hb
      exact (exec_at_last_argument hat rfl).trans (congrArg Host.Outcome.next (takeReadLimit_of_name hname))
    · intro b high low hat value
      refine ⟨fun hbad => ?_, fun row hrow hb => ?_⟩
      · exact (exec_at_last_argument hat rfl).trans (congrArg Host.Outcome.next (takeWriteLimit_of_bad_index hbad))
      · obtain ⟨hname, hleast, hgreatest⟩ := LimitName.ofCode_of_row hrow hb
        have hexec := (exec_at_last_argument (i := .writeLimit low) (b := low) hat rfl).trans
          (congrArg Host.Outcome.next (takeWriteLimit_of_name (s := s.drive Config.fill) (low := low) hname))
        rw [hleast, hgreatest] at hexec
        refine ⟨fun hout => hexec.trans ?_, fun hlow hhigh => hexec.trans ?_⟩
        · rw [if_neg (by omega)]
          rfl
        · rw [if_pos ⟨hlow, hhigh⟩]
          rfl

/-! ### Fault records -/

/-- An initiator set is known by the bits that stand for its members (12.4). -/
theorem eq_initiatorBits {set : List Initiator → Byte}
    (h : ∀ (l : List Initiator) (n : Initiator), (set l).getLsbD n.val = true ↔ n ∈ l) : set = initiatorBits := by
  funext l
  refine BitVec.eq_of_getLsbD_eq fun i hi => ?_
  rw [Bool.eq_iff_iff, h l ⟨i, hi⟩, ← getLsbD_initiatorBits l ⟨i, hi⟩]

theorem exec_popFault_of_atCommand {s : State} (h : s.AtCommand) :
    exec .popFault s = .next (s.drive Config.fill).takePopFault :=
  congrArg Host.Outcome.next (State.clockByte_takes_command h (b := 0x40) rfl rfl)

/-- Settles O15: the readout by the head, and the bytes of each kind of record. -/
theorem popFaultReadsOutTheHead : Obligations.PopFaultReadsOutTheHead := by
  refine ⟨fun s hat => ⟨fun hnone => ?_, fun r rest hhead => ?_⟩, ?_⟩
  · rw [exec_popFault_of_atCommand hat]
    have hrecords : (s.drive Config.fill).faults.records = [] := hnone
    simp only [takePopFault, hrecords, drive_answerFrame]
    rfl
  · rw [exec_popFault_of_atCommand hat]
    have hrecords : (s.drive Config.fill).faults.records = r :: rest := hhead
    simp only [takePopFault, hrecords, drive_answerFrame]
    rfl
  · intro r set hset lineBytes maskBytes
    obtain rfl := eq_initiatorBits hset
    rw [FaultRecord.encode, bigEndian_two]
    cases hbody : r.body with
    | writeError | writeTimeout =>
      rw [FaultBody.encode, bigEndian_five, bigEndian_four]
      rfl
    | lockBroken =>
      rw [FaultBody.encode, bigEndian_five]
      rfl
    | lateCompletion | discarded => rfl

/-! ### A region encoding that is no entry's -/

/-- The first twelve bytes of an encoding whose capture mode code is 7, which stands for nothing (12.4). -/
def strayEncoding : List Byte := [0x01, 0, 0, 0, 0, 0, 0, 0, 0, 0, 0, 0x07]

/-- The last byte of a WRITE_REGION of entry 0 with that encoding is to be received. -/
def strayWrite : State :=
  { State.reset with
    pins := { State.reset.pins with csLow := true }
    mgmt := { State.reset.mgmt with phase := .arguments .writeRegion (0x00 :: strayEncoding) } }

theorem strayWrite_atLastArgument : strayWrite.AtLastArgument .writeRegion (0x00 :: strayEncoding) := ⟨rfl, rfl, rfl⟩

/-- No entry has these bytes: the twelfth is the code of a capture mode. -/
theorem strayEncoding_ne_encode (e : RegionEntry) : strayEncoding ++ [0x00] ≠ e.encode := by
  intro h
  have hcode : e.encode.getD 11 0 = e.settings.captureMode.code := by
    rw [RegionEntry.encode, bigEndian_four, bigEndian_four]
    rfl
  rw [← h] at hcode
  cases hmode : e.settings.captureMode <;> rw [hmode] at hcode <;> exact absurd hcode (by decide)

/-- The bytes are taken as an entry's, and answered OK: an undefined capture mode code is read as NONE. -/
theorem strayWrite_answered :
    ((strayWrite.clockByte 0x00).mgmt.phase = .response (some .writeRegion) [0x00] 0) ∧
      (strayWrite.replying (some .writeRegion) 0x03 []).phase = .response (some .writeRegion) [0x03] 0 := by decide

/-- Refutes O10: a WRITE_REGION whose capture mode code is undefined is not refused BAD_VALUE but writes the entry. -/
theorem not_regionsAreReadAndWritten : ¬ Obligations.RegionsAreReadAndWritten := by
  rintro ⟨-, -, -, hwrite⟩
  obtain ⟨-, -, -, hrefused, -⟩ := hwrite strayWrite 0x00 0x00 strayEncoding strayWrite_atLastArgument
  have hnext : strayWrite.clockByte 0x00 = _ :=
    Host.Outcome.next.inj (hrefused (by decide) strayEncoding_ne_encode)
  obtain ⟨htaken, hbadValue⟩ := strayWrite_answered
  rw [hnext] at htaken
  exact absurd (hbadValue.symm.trans htaken) (by decide)

end Sys2Proof.Machine
end

section
/-! The frames of the Fabric Port: the fields of a request header at their bits, the requests a frame carries, the
header a request is sent with, and the bytes of a response (12.2, R160, R199). -/

namespace Sys2Proof.Machine

open Sys2Proof

variable {h : BitVec 64} {data : List Byte} {a : Addr} {size : Size}

/-! ### The fields of a request header -/

/-- A field of a word is the word divided by the field's weight, modulo the field's range. -/
theorem toNat_field (h : BitVec 64) (start width : Nat) :
    (h.extractLsb' start width).toNat = h.toNat / 2 ^ start % 2 ^ width := by
  rw [BitVec.extractLsb'_toNat, Nat.shiftRight_eq_div_pow]

theorem headerInitiator_val (h : BitVec 64) : (headerInitiator h).val = h.toNat % 8 := by
  simp only [headerInitiator, toNat_field, Fin.ofNat]
  omega

theorem headerTag_val (h : BitVec 64) : (headerTag h).val = h.toNat / 2 ^ 3 % 16 := by
  simp only [headerTag, toNat_field, Fin.ofNat]
  omega

theorem headerKind_eq (h : BitVec 64) : headerKind h = h.toNat / 2 ^ 7 % 16 := toNat_field h 7 4

theorem headerSizeCode_eq (h : BitVec 64) : headerSizeCode h = h.toNat / 2 ^ 11 % 8 := toNat_field h 11 3

theorem headerAddressPresent_iff (h : BitVec 64) : headerAddressPresent h = true ↔ h.toNat / 2 ^ 14 % 2 = 1 := by
  rw [headerAddressPresent, BitVec.getLsbD, Nat.testBit_eq_decide_div_mod_eq, decide_eq_true_iff]

theorem headerHintCode_eq (h : BitVec 64) : headerHintCode h = h.toNat / 2 ^ 15 % 4 := toNat_field h 15 2

theorem headerDataLength_eq (h : BitVec 64) : headerDataLength h = h.toNat / 2 ^ 17 % 128 := toNat_field h 17 7

theorem headerAddress_toNat (h : BitVec 64) : (headerAddress h).toNat = h.toNat / 2 ^ 24 := by
  have hbound := h.isLt
  rw [headerAddress, toNat_field, Nat.mod_eq_of_lt (by omega)]

/-! ### The codes of sizes and hints -/

@[simp] theorem sizeOfCode_sizeCode (size : Size) : sizeOfCode (sizeCode size) = some size := by
  cases size <;> rfl

@[simp] theorem hintOfCode_hintCode (hint : Hint) : hintOfCode (hintCode hint) = some hint := by
  cases hint <;> rfl

theorem sizeCode_lt (size : Size) : sizeCode size < 8 := by
  cases size <;> decide

theorem hintCode_lt (hint : Hint) : hintCode hint < 4 := by
  cases hint <;> decide

theorem size_bytes_le (size : Size) : size.bytes ≤ 32 := by
  cases size <;> decide

/-- A hint code of a header names a hint exactly where it is not the code for absent (12.1). -/
theorem exists_hintOfCode_iff (h : BitVec 64) :
    (∃ hint, hintOfCode (headerHintCode h) = some hint) ↔ headerHintCode h ≠ 0 := by
  have hbound : headerHintCode h < 4 := by
    rw [headerHintCode_eq]
    omega
  generalize headerHintCode h = code at hbound
  match code, hbound with
  | 0, _ => simp [hintOfCode]
  | 1, _ | 2, _ | 3, _ => simp [hintOfCode]

/-! ### The kind a frame carries -/

theorem frameTarget_eq_some_iff :
    frameTarget h = some (a, size) ↔
      headerAddressPresent h = true ∧ sizeOfCode (headerSizeCode h) = some size ∧ headerAddress h = a := by
  rw [frameTarget]
  split
  · next hpresent => simp [hpresent, and_comm]
  · next habsent => simp [habsent]

theorem frameBare_iff :
    frameBare h = true ↔
      headerAddressPresent h = false ∧ headerSizeCode h = 0 ∧ headerHintCode h = 0 ∧ headerDataLength h = 0 := by
  simp [frameBare, and_assoc]

/-- The header h and the data of its frame are those that the kind's row of R160 requires. -/
def RequestKind.CarriedBy (h : BitVec 64) (data : List Byte) : RequestKind → Prop
  | .read a size hint =>
    headerKind h = 0 ∧ frameTarget h = some (a, size) ∧ hintOfCode (headerHintCode h) = some hint ∧
      headerDataLength h = 0
  | .write a size hint written =>
    headerKind h = 1 ∧ frameTarget h = some (a, size) ∧ hintOfCode (headerHintCode h) = some hint ∧
      headerDataLength h = data.length ∧ data = written
  | .lockedRead a size =>
    headerKind h = 2 ∧ frameTarget h = some (a, size) ∧ headerHintCode h = 0 ∧ headerDataLength h = 0
  | .lockedWrite a size written =>
    headerKind h = 3 ∧ frameTarget h = some (a, size) ∧ headerHintCode h = 0 ∧
      headerDataLength h = data.length ∧ data = written
  | .lockDrop => headerKind h = 4 ∧ frameBare h = true
  | .fence => headerKind h = 5 ∧ frameBare h = true
  | .discard => headerKind h = 6 ∧ frameBare h = true

theorem decodeKind_of_carriedBy {k : RequestKind} (hk : k.CarriedBy h data) : decodeKind h data = some k := by
  cases k with
  | read a size hint =>
    obtain ⟨hkind, htarget, hhint, hlength⟩ := hk
    simp only [decodeKind, hkind, htarget, hhint, hlength]
  | write a size hint written =>
    obtain ⟨hkind, htarget, hhint, hlength, rfl⟩ := hk
    simp only [decodeKind, hkind, htarget, hhint, hlength, if_true]
  | lockedRead a size =>
    obtain ⟨hkind, htarget, hhint, hlength⟩ := hk
    simp only [decodeKind, hkind, htarget, hhint, hlength]
  | lockedWrite a size written =>
    obtain ⟨hkind, htarget, hhint, hlength, rfl⟩ := hk
    simp only [decodeKind, hkind, htarget, hhint, hlength, if_true]
  | lockDrop | fence | discard =>
    obtain ⟨hkind, hbare⟩ := hk
    simp only [decodeKind, hkind, hbare, if_true]

theorem carriedBy_of_decodeKind {k : RequestKind} (hk : decodeKind h data = some k) : k.CarriedBy h data := by
  rw [decodeKind] at hk
  split at hk
  case h_1 hkind =>
    split at hk
    · next htarget hhint hlength =>
      cases hk
      exact ⟨hkind, htarget, hhint, hlength⟩
    · cases hk
  case h_2 hkind =>
    split at hk
    · next htarget hhint =>
      obtain ⟨hlength, hk⟩ := Option.ite_none_right_eq_some.1 hk
      cases hk
      exact ⟨hkind, htarget, hhint, hlength, rfl⟩
    · cases hk
  case h_3 hkind =>
    split at hk
    · next htarget hhint hlength =>
      cases hk
      exact ⟨hkind, htarget, hhint, hlength⟩
    · cases hk
  case h_4 hkind =>
    split at hk
    · next htarget hhint =>
      obtain ⟨hlength, hk⟩ := Option.ite_none_right_eq_some.1 hk
      cases hk
      exact ⟨hkind, htarget, hhint, hlength, rfl⟩
    · cases hk
  case h_5 hkind | h_6 hkind | h_7 hkind =>
    obtain ⟨hbare, hk⟩ := Option.ite_none_right_eq_some.1 hk
    cases hk
    exact ⟨hkind, hbare⟩
  case h_8 => cases hk

/-- A frame decodes to the kind it carries, and to no other. -/
theorem decodeKind_eq_some_iff {k : RequestKind} : decodeKind h data = some k ↔ k.CarriedBy h data :=
  ⟨carriedBy_of_decodeKind, decodeKind_of_carriedBy⟩

/-- A frame decodes to a request exactly where it carries a well-formed kind. -/
theorem decodeRequest_isSome_iff :
    (decodeRequest h data).isSome = true ↔ ∃ k : RequestKind, k.CarriedBy h data ∧ k.wellFormed = true := by
  simp only [← decodeKind_eq_some_iff, decodeRequest]
  cases decodeKind h data with
  | none => simp
  | some k => cases hk : k.wellFormed <;> simp [hk]

theorem decodeRequest_of_carriedBy {k : RequestKind} (hk : k.CarriedBy h data) (hw : k.wellFormed = true) :
    decodeRequest h data = some { initiator := headerInitiator h, tag := headerTag h, kind := k } := by
  simp only [decodeRequest, decodeKind_eq_some_iff.2 hk, hw, if_true]

theorem aligned_iff : aligned a size = true ↔ a.toNat % size.bytes = 0 := decide_eq_true_iff

/-! ### The response frame -/

theorem Status.code_eq_idxOf (st : Status) :
    st.code =
      [Status.done, .writeTaken, .replayed, .retry, .declined, .malformed, .protocol, .limit, .lockLost, .portError,
        .portTimeout, .abandoned].idxOf st := by
  cases st <;> rfl

theorem reasonCode_eq_idxOf (reason : Option Reason) :
    reasonCode reason =
      [none, some Reason.queueFull, some .lineLocked, some .noLockSlot, some .reserved, some .blockedRegion,
        some .lockingForbidden].idxOf reason := by
  rcases reason with - | reason
  · rfl
  · cases reason <;> rfl

theorem sourceCode_eq_idxOf (source : Option Source) :
    sourceCode source = [none, some Source.memory, some .queue, some .latch].idxOf source := by
  rcases source with - | source
  · rfl
  · cases source <;> rfl

theorem Status.code_lt (st : Status) : st.code < 16 := by
  cases st <;> decide

theorem reasonCode_lt (reason : Option Reason) : reasonCode reason < 8 := by
  rcases reason with - | reason
  · decide
  · cases reason <;> decide

theorem sourceCode_lt (source : Option Source) : sourceCode source < 4 := by
  rcases source with - | source
  · decide
  · cases source <;> decide

/-- The header of a response with at most 32 data bytes holds each field at its bits (12.2). -/
theorem Response.header_toNat {r : Response} (hlength : r.data.length ≤ 32) :
    r.header.toNat =
      r.initiator.val + 2 ^ 3 * r.tag.val + 2 ^ 7 * r.status.code + 2 ^ 11 * reasonCode r.reason +
        2 ^ 14 * sourceCode r.source + 2 ^ 16 * r.data.length := by
  have hinitiator := r.initiator.isLt
  have htag := r.tag.isLt
  have hstatus := r.status.code_lt
  have hreason := reasonCode_lt r.reason
  have hsource := sourceCode_lt r.source
  rw [header, BitVec.toNat_ofNat]
  omega

/-! ### The frames that carry a well-formed kind -/

/-- The size a header names fits the data and the address it carries. -/
theorem target_of_frameTarget (htarget : frameTarget h = some (a, size)) (haligned : aligned a size = true) :
    headerAddressPresent h = true ∧
      ∃ size, sizeOfCode (headerSizeCode h) = some size ∧ (headerAddress h).toNat % size.bytes = 0 := by
  obtain ⟨hpresent, hsize, rfl⟩ := frameTarget_eq_some_iff.1 htarget
  exact ⟨hpresent, size, hsize, aligned_iff.1 haligned⟩

theorem sized_of_frameTarget (htarget : frameTarget h = some (a, size)) (hlength : data.length = size.bytes) :
    ∀ size, sizeOfCode (headerSizeCode h) = some size → data.length = size.bytes := by
  obtain ⟨-, hsize, -⟩ := frameTarget_eq_some_iff.1 htarget
  intro other hother
  cases hsize.symm.trans hother
  exact hlength

/-- Settles O18: the fields of a header, the bytes of a response, and the frames that carry a well-formed kind, kind by
kind. -/
theorem wellFormedFramesDecode : Obligations.WellFormedFramesDecode := by
  unfold Obligations.WellFormedFramesDecode
  refine ⟨fun h => ⟨headerInitiator_val h, headerTag_val h, headerKind_eq h, headerSizeCode_eq h,
    headerAddressPresent_iff h, headerHintCode_eq h, headerDataLength_eq h, headerAddress_toNat h⟩,
    fun r hlength => ?_, fun h data hlength => ?_⟩
  · rw [Response.frame, littleEndian_four, Response.header_toNat hlength, Status.code_eq_idxOf, reasonCode_eq_idxOf,
      sourceCode_eq_idxOf]
  · intro target sized bare
    have hempty : headerDataLength h = 0 ↔ data = [] := by rw [hlength, List.length_eq_zero_iff]
    have hbare : frameBare h = true ↔ bare := by rw [frameBare_iff, hempty]
    rw [decodeRequest_isSome_iff]
    constructor
    · rintro ⟨k, hcarried, hwell⟩
      cases k with
      | read a size hint =>
        obtain ⟨hkind, htarget, hhint, hdata⟩ := hcarried
        exact .inl ⟨hkind, target_of_frameTarget htarget hwell, (exists_hintOfCode_iff h).1 ⟨_, hhint⟩, hempty.1 hdata⟩
      | write a size hint written =>
        obtain ⟨hkind, htarget, hhint, -, rfl⟩ := hcarried
        obtain ⟨haligned, hbytes⟩ := Bool.and_eq_true_iff.1 hwell
        exact .inr (.inl ⟨hkind, target_of_frameTarget htarget haligned, (exists_hintOfCode_iff h).1 ⟨_, hhint⟩,
          sized_of_frameTarget htarget (beq_iff_eq.1 hbytes)⟩)
      | lockedRead a size =>
        obtain ⟨hkind, htarget, hhint, hdata⟩ := hcarried
        exact .inr (.inr (.inl ⟨hkind, target_of_frameTarget htarget hwell, hhint, hempty.1 hdata⟩))
      | lockedWrite a size written =>
        obtain ⟨hkind, htarget, hhint, -, rfl⟩ := hcarried
        obtain ⟨haligned, hbytes⟩ := Bool.and_eq_true_iff.1 hwell
        exact .inr (.inr (.inr (.inl ⟨hkind, target_of_frameTarget htarget haligned, hhint,
          sized_of_frameTarget htarget (beq_iff_eq.1 hbytes)⟩)))
      | lockDrop =>
        obtain ⟨hkind, hfields⟩ := hcarried
        exact .inr (.inr (.inr (.inr (.inl ⟨hkind, hbare.1 hfields⟩))))
      | fence =>
        obtain ⟨hkind, hfields⟩ := hcarried
        exact .inr (.inr (.inr (.inr (.inr (.inl ⟨hkind, hbare.1 hfields⟩)))))
      | discard =>
        obtain ⟨hkind, hfields⟩ := hcarried
        exact .inr (.inr (.inr (.inr (.inr (.inr ⟨hkind, hbare.1 hfields⟩)))))
    · have htarget {size : Size} (hpresent : headerAddressPresent h = true)
          (hsize : sizeOfCode (headerSizeCode h) = some size) : frameTarget h = some (headerAddress h, size) :=
        frameTarget_eq_some_iff.2 ⟨hpresent, hsize, rfl⟩
      rintro (⟨hkind, ⟨hpresent, size, hsize, haligned⟩, hhint, hdata⟩ |
        ⟨hkind, ⟨hpresent, size, hsize, haligned⟩, hhint, hsized⟩ |
        ⟨hkind, ⟨hpresent, size, hsize, haligned⟩, hhint, hdata⟩ |
        ⟨hkind, ⟨hpresent, size, hsize, haligned⟩, hhint, hsized⟩ | ⟨hkind, hfields⟩ | ⟨hkind, hfields⟩ | ⟨hkind, hfields⟩)
      · obtain ⟨hint, hhint⟩ := (exists_hintOfCode_iff h).2 hhint
        exact ⟨.read (headerAddress h) size hint, ⟨hkind, htarget hpresent hsize, hhint, hempty.2 hdata⟩,
          aligned_iff.2 haligned⟩
      · obtain ⟨hint, hhint⟩ := (exists_hintOfCode_iff h).2 hhint
        exact ⟨.write (headerAddress h) size hint data, ⟨hkind, htarget hpresent hsize, hhint, hlength, rfl⟩,
          Bool.and_eq_true_iff.2 ⟨aligned_iff.2 haligned, beq_iff_eq.2 (hsized size hsize)⟩⟩
      · exact ⟨.lockedRead (headerAddress h) size, ⟨hkind, htarget hpresent hsize, hhint, hempty.2 hdata⟩,
          aligned_iff.2 haligned⟩
      · exact ⟨.lockedWrite (headerAddress h) size data, ⟨hkind, htarget hpresent hsize, hhint, hlength, rfl⟩,
          Bool.and_eq_true_iff.2 ⟨aligned_iff.2 haligned, beq_iff_eq.2 (hsized size hsize)⟩⟩
      · exact ⟨.lockDrop, ⟨hkind, hbare.2 hfields⟩, rfl⟩
      · exact ⟨.fence, ⟨hkind, hbare.2 hfields⟩, rfl⟩
      · exact ⟨.discard, ⟨hkind, hbare.2 hfields⟩, rfl⟩

/-! ### The header a request is sent with -/

/-- The codes of a kind fit the bits their fields have in a header (12.1, 12.2). -/
theorem RequestKind.headerFields_lt {k : RequestKind} {kind size present hint : Nat} {address : Addr}
    (hfields : k.headerFields = (kind, size, present, hint, address)) :
    kind < 16 ∧ size < 8 ∧ present < 2 ∧ hint < 4 := by
  cases k <;> cases hfields <;> simp [sizeCode_lt, hintCode_lt]

/-- The data of a well-formed request is at most a line long (R160). -/
theorem RequestKind.data_length_le {k : RequestKind} (hw : k.wellFormed = true) : k.data.length ≤ 32 := by
  cases k with
  | write a size hint data | lockedWrite a size data =>
    obtain ⟨-, hbytes⟩ := Bool.and_eq_true_iff.1 hw
    exact (beq_iff_eq.1 hbytes).le.trans (size_bytes_le size)
  | read | lockedRead | lockDrop | fence | discard => exact Nat.zero_le _

/-- Each field of a well-formed request can be read back from its header. -/
theorem Request.header_fields {r : Request} {kind size present hint : Nat} {address : Addr}
    (hw : r.kind.wellFormed = true) (hfields : r.kind.headerFields = (kind, size, present, hint, address)) :
    headerInitiator r.header = r.initiator ∧ headerTag r.header = r.tag ∧ headerKind r.header = kind ∧
      headerSizeCode r.header = size ∧ (headerAddressPresent r.header = true ↔ present = 1) ∧
      headerHintCode r.header = hint ∧ headerDataLength r.header = r.kind.data.length ∧
      headerAddress r.header = address := by
  obtain ⟨hkind, hsize, hpresent, hhint⟩ := RequestKind.headerFields_lt hfields
  have hlength := RequestKind.data_length_le hw
  have hinitiator := r.initiator.isLt
  have htag := r.tag.isLt
  have haddress := address.isLt
  have hheader : r.header.toNat =
      r.initiator.val + r.tag.val * 2 ^ 3 + kind * 2 ^ 7 + size * 2 ^ 11 + present * 2 ^ 14 + hint * 2 ^ 15 +
        r.kind.data.length * 2 ^ 17 + address.toNat * 2 ^ 24 := by
    simp only [header, hfields, BitVec.toNat_ofNat]
    omega
  rw [Fin.ext_iff, Fin.ext_iff, ← BitVec.toNat_inj, headerInitiator_val, headerTag_val, headerKind_eq,
    headerSizeCode_eq, headerAddressPresent_iff, headerHintCode_eq, headerDataLength_eq, headerAddress_toNat, hheader]
  omega

theorem Request.frameTarget_header {r : Request} {kind hint : Nat} (hw : r.kind.wellFormed = true)
    (hfields : r.kind.headerFields = (kind, sizeCode size, 1, hint, a)) : frameTarget r.header = some (a, size) := by
  obtain ⟨-, -, -, hsize, hpresent, -, -, haddress⟩ := header_fields hw hfields
  exact frameTarget_eq_some_iff.2 ⟨hpresent.2 rfl, by rw [hsize, sizeOfCode_sizeCode], haddress⟩

theorem Request.frameBare_header {r : Request} {kind : Nat} (hw : r.kind.wellFormed = true)
    (hfields : r.kind.headerFields = (kind, 0, 0, 0, 0)) (hdata : r.kind.data = []) : frameBare r.header = true := by
  obtain ⟨-, -, -, hsize, hpresent, hhint, hlength, -⟩ := header_fields hw hfields
  refine frameBare_iff.2 ⟨?_, hsize, hhint, by rw [hlength, hdata, List.length_nil]⟩
  exact Bool.eq_false_iff.2 fun h => Nat.zero_ne_one (hpresent.1 h)

/-- The header of a well-formed request and the request's data are the frame that carries its kind. -/
theorem Request.header_carries {r : Request} (hw : r.kind.wellFormed = true) :
    r.kind.CarriedBy r.header r.kind.data := by
  obtain ⟨initiator, tag, k⟩ := r
  cases k with
  | read a size hint =>
    obtain ⟨-, -, hkind, -, -, hhint, hlength, -⟩ := header_fields hw rfl
    exact ⟨hkind, frameTarget_header hw rfl, by rw [hhint, hintOfCode_hintCode], hlength⟩
  | write a size hint data =>
    obtain ⟨-, -, hkind, -, -, hhint, hlength, -⟩ := header_fields hw rfl
    exact ⟨hkind, frameTarget_header hw rfl, by rw [hhint, hintOfCode_hintCode], hlength, rfl⟩
  | lockedRead a size =>
    obtain ⟨-, -, hkind, -, -, hhint, hlength, -⟩ := header_fields hw rfl
    exact ⟨hkind, frameTarget_header hw rfl, hhint, hlength⟩
  | lockedWrite a size data =>
    obtain ⟨-, -, hkind, -, -, hhint, hlength, -⟩ := header_fields hw rfl
    exact ⟨hkind, frameTarget_header hw rfl, hhint, hlength, rfl⟩
  | lockDrop | fence | discard =>
    obtain ⟨-, -, hkind, -⟩ := header_fields hw rfl
    exact ⟨hkind, frameBare_header hw rfl rfl⟩

/-- Settles O19: the header of a request carries its kind with its data. -/
theorem requestFramesRoundTrip : Obligations.RequestFramesRoundTrip := by
  unfold Obligations.RequestFramesRoundTrip
  intro r hw
  obtain ⟨hinitiator, htag, -⟩ := Request.header_fields hw rfl
  rw [decodeRequest_of_carriedBy (Request.header_carries hw) hw, hinitiator, htag]

end Sys2Proof.Machine
end
